-- ==== Sys2Proof/Word.lean ====
section
/-! DEFINITION. The word types of the Bryth BG44: what the manual treats as bits, and nothing else. -/

namespace Sys2Proof

/-- One byte of the management link, or one byte of a beat. -/
abbrev Byte := BitVec 8

/-- A 32-bit byte address of the memory behind the gate ("Addresses and sizes", 00_scope.md). -/
abbrev Addr := BitVec 32

/-- The eight data bytes of one beat. The gate forwards them unchanged (R49, R50), so no byte order is fixed within them. -/
abbrev BeatData := BitVec 64

/-- A frame number: a 32-bit count of frame boundaries that wraps (R28, R30). -/
abbrev FrameNumber := BitVec 32

/-- A master's tag, 0 to 15, unique among the outstanding requests of its port (R49). -/
abbrev Tag := Fin 16

/-- The tag the gate gives an issue on the memory port, 0 to 15 (R126, R128). -/
abbrev IssueTag := Fin 16

end Sys2Proof
end

