-- ==== Sys2Proof/Config.lean ====
section
/-! DEFINITION. The quantities the manual fixes for every BG44 (Table 0-4): depths, limits and the values after reset.
The manual leaves no value of the part open, so there is no free value here. -/

namespace Sys2Proof.Config

/-- Hold queue depth per port (R80). -/
def holdDepth : Nat := 8
/-- Entries of the posted-write buffer (R104). -/
def postedDepth : Nat := 16
/-- Entries of the issue list (R128). -/
def issueDepth : Nat := 16
/-- Window records of a plan (R2). -/
def windowRecords : Nat := 32
/-- Region records of a plan (R3). -/
def regionRecords : Nat := 16
/-- The greatest posted quota of a port (R4). -/
def maxQuota : Nat := 16
/-- The greatest cost overhead of a plan, in ticks (R5). -/
def maxOverhead : Nat := 63
/-- The greatest beat cost of a plan, in ticks (R5). -/
def maxBeatCost : Nat := 15
/-- The greatest beat count of a request (R49). -/
def maxBeats : Nat := 16
/-- Bytes of one beat (Table 0-4). -/
def beatBytes : Nat := 8
/-- Bytes of a page: the region granularity, and the boundary no span may cross (R3, R56). -/
def pageBytes : Nat := 4096
/-- 4 GiB: the size of the address space and the greatest region size (R3). -/
def addressSpace : Nat := 4294967296
/-- The value at which the age of an issue-list entry stops (R128). -/
def maxAge : Nat := 65535
/-- The ready-wait limit while the memory response limit is off (R150). -/
def unlimitedReadyWait : Nat := 65535
/-- The value at which a fault record's later count stops (R172). -/
def maxLaterCount : Nat := 255
/-- The greatest sync correction limit, in ticks (R153, R186). -/
def maxCorrection : Nat := 4095
/-- The greatest tick-divider code; code n stands for a divider of 2 to the n (Table 11-3). -/
def maxDividerCode : Nat := 8

/-- The tick divider after POR, RST and soft reset (Table 11-6). -/
def resetDivider : Nat := 1
/-- The memory response limit after POR, RST and soft reset (Table 11-6). -/
def resetResponseLimit : Nat := 4096
/-- The recovery pulse after POR, RST and soft reset (Table 11-6). -/
def resetPulse : Nat := 16
/-- Boot pass after POR, RST and soft reset (Table 11-6). -/
def resetBootPass : Bool := true

end Sys2Proof.Config
end

