-- ==== Sys2Proof/Syntax.lean ====
section
/-! DEFINITION. The commands of the BG44: one constructor of `Instr` for each row of spec/opcode_table.json, with the
operands the rule of the row gives it. A management command carries its operand fields as they stand in its frame
(Table 11-2), so that an operand that stands for nothing can be sent and refused BAD_ARG by the command's own rule. -/

namespace Sys2Proof

/-- The master ports ("Ports", 00_scope.md). P0 is also the boot port. -/
inductive Port where
  | p0 | p1 | p2 | p3
deriving DecidableEq, Repr

/-- The kind of an access (Table 3-1). -/
inductive Kind where
  | read | write
deriving DecidableEq, Repr

/-- One beat of write data: 8 data bytes with 8 byte-enable flags (Table 3-1). -/
structure Beat where
  data   : BeatData
  enable : BitVec 8
deriving DecidableEq, Repr

/-- A request at a master port, with the fields of Table 3-1 (R49). -/
structure Request where
  tag   : Tag
  kind  : Kind
  addr  : Addr
  beats : Nat
  data  : List Beat
deriving DecidableEq, Repr

/-- A response the memory presents: an issue tag, a status OK or ERROR, and read data in address order (R131). -/
structure MemResponse where
  tag  : IssueTag
  ok   : Bool
  data : List BeatData
deriving DecidableEq, Repr

/-- A direction in which the level of SYNC changes (R153, R154). -/
inductive SyncEdge where
  | rising | falling
deriving DecidableEq, Repr

/-- The commands: the steps of spec/opcode_table.json, in the table's order. -/
inductive Instr where
  /-- POR (R8): power-on. -/
  | por
  /-- RST (R28): assertion of RSTn. -/
  | rst
  /-- LINK_RESET (R65): assertion of the port's LRSTn. -/
  | linkReset (p : Port)
  /-- LINK_RESET_RELEASE (R67): release of the port's LRSTn. -/
  | linkResetRelease (p : Port)
  /-- GATE_TICK (R26): one gate tick. -/
  | gateTick
  /-- WINDOW_EXPIRY (R29): the share of the last gate tick in which the current window expires. -/
  | windowExpiry
  /-- HOLD_LIMIT_EXPIRY (R84): the oldest request of the port whose deadline reached 0 is answered LATE. -/
  | holdLimitExpiry (p : Port)
  /-- CHECK_COMPLETION (R21). -/
  | checkCompletion
  /-- TIMEOUT (R141). -/
  | timeout
  /-- RECOVERY_PULSE_END (R149), with the level of MEMRDY at the release of MEMRST. -/
  | recoveryPulseEnd (memrdy : Bool)
  /-- MEMRDY_ASSERTED (R150). -/
  | memrdyAsserted
  /-- READY_WAIT_EXPIRY (R151). -/
  | readyWaitExpiry
  /-- RESET_STEP (R190). -/
  | resetStep
  /-- SYNC_EDGE (R156): the level of SYNC changes in the named direction. -/
  | syncEdge (e : SyncEdge)
  /-- REQUEST_ARRIVAL (R54): a request is presented at a master port. -/
  | requestArrival (p : Port) (r : Request)
  /-- GRANT (R125), with the ready indication of the memory's request channel (R124). -/
  | grant (memReady : Bool)
  /-- MEMORY_RESPONSE (R131). -/
  | memoryResponse (m : MemResponse)
  /-- CHIP_SELECT_FALL (R176). -/
  | chipSelectFall
  /-- CHIP_SELECT_RISE (R179), with the clock edges received of a byte not yet complete. -/
  | chipSelectRise (edges : Fin 8)
  /-- BAD_CRC (R178): the CRC byte of a frame (code and operand bytes) that does not match it. -/
  | badCrc (frame : List Byte) (crc : Byte)
  /-- UNKNOWN (R178): the matching CRC byte after a code that is not in Table 11-2. -/
  | unknown (code : Byte)
  /-- STATUS (R183). -/
  | status
  /-- TAKE EVENTS (R166). -/
  | takeEvents (mask : BitVec 16)
  /-- READ FAULT (R174). -/
  | readFault (port take : Byte)
  /-- READ SYNC (R161). -/
  | readSync (take : Byte)
  /-- READ RECOVERY REPORT (R188). -/
  | readRecoveryReport
  /-- SET ALERTS (R168). -/
  | setAlerts (kinds : BitVec 16)
  /-- SET DEVICE (R185). -/
  | setDevice (divider : Byte) (limit : BitVec 16) (pulse bootPass : Byte)
  /-- SET SYNC (R186). -/
  | setSync (mode edge : Byte) (limit : BitVec 16)
  /-- WRITE WINDOW (R11). -/
  | writeWindow (plan index : Byte) (length : BitVec 16) (openSet drain : Byte)
  /-- SET WINDOW COUNT (R12). -/
  | setWindowCount (plan count : Byte)
  /-- WRITE REGION (R13). -/
  | writeRegion (plan index : Byte) (base : Addr) (size : BitVec 40) (rights posting : Byte)
  /-- SET REGION COUNT (R14). -/
  | setRegionCount (plan count : Byte)
  /-- WRITE PORT SETTINGS (R15). -/
  | writePortSettings (plan port : Byte) (holdLimit : BitVec 16) (quota : Byte)
  /-- WRITE COSTS (R16). -/
  | writeCosts (plan overhead beatCost : Byte)
  /-- READ PLAN ITEM (R187). -/
  | readPlanItem (plan item index : Byte)
  /-- COPY PLAN (R17). -/
  | copyPlan
  /-- CHECK PLAN (R18). -/
  | checkPlan (plan : Byte)
  /-- REQUEST SWAP (R23, R38). -/
  | requestSwap (plan : Byte)
  /-- WITHDRAW SWAP (R39). -/
  | withdrawSwap
  /-- START (R33). -/
  | start (mode : Byte)
  /-- HALT (R36). -/
  | halt
  /-- HALT NOW (R37). -/
  | haltNow
  /-- RECOVER (R148). -/
  | recover
  /-- RESET GATE (R189). -/
  | resetGate
  /-- LINK_BYTE (R176): one byte clocked on the management link. -/
  | linkByte (b : Byte)
  /-- RESET_RELEASE (R26): the release of RSTn, or the end of power-on. -/
  | resetRelease
deriving DecidableEq, Repr

end Sys2Proof
end

