-- ==== Sys2Proof/Decode.lean ====
section
/-! DEFINITION. Reading and writing command frames: CRC-8 (R177), the frame layouts of Table 11-2 (R182), the
management commands as frames and back, and `decodeTableWord`, which answers none because no row of
spec/opcode_table.json gives bits. -/

namespace Sys2Proof

/-- One bit of CRC-8 with the polynomial x^8 + x^2 + x + 1, most significant bit first (R177). -/
def crcBit (c : Byte) : Byte :=
  if c.msb then (c <<< 1) ^^^ 0x07#8 else c <<< 1

/-- One byte taken into the CRC (R177). -/
def crcByte (c b : Byte) : Byte :=
  crcBit (crcBit (crcBit (crcBit (crcBit (crcBit (crcBit (crcBit (c ^^^ b))))))))

/-- The CRC-8 of a list of bytes: initial value 0x00, no reflection, no final XOR (R177). -/
def crc8 (bytes : List Byte) : Byte := bytes.foldl crcByte 0x00#8

/-- The `n` bytes of a field, most significant byte first ("Management fields", R182). -/
def beBytes : Nat → Nat → List Byte
  | 0, _ => []
  | n + 1, v => BitVec.ofNat 8 (v / 256 ^ n) :: beBytes n v

/-- One row of Table 11-2: the code, the operand bytes and the data bytes of a command. -/
structure CommandRow where
  code     : Byte
  operands : Nat
  data     : Nat
deriving DecidableEq, Repr

/-- Table 11-2. -/
def commandTable : List CommandRow :=
  [ ⟨0x01, 0, 26⟩, ⟨0x02, 2, 2⟩, ⟨0x03, 2, 16⟩, ⟨0x04, 1, 15⟩, ⟨0x05, 0, 9⟩,
    ⟨0x08, 2, 0⟩, ⟨0x09, 5, 0⟩, ⟨0x0A, 4, 0⟩,
    ⟨0x10, 6, 0⟩, ⟨0x11, 2, 0⟩, ⟨0x12, 13, 0⟩, ⟨0x13, 2, 0⟩, ⟨0x14, 5, 0⟩, ⟨0x15, 3, 0⟩,
    ⟨0x16, 3, 20⟩, ⟨0x17, 0, 0⟩, ⟨0x18, 1, 0⟩,
    ⟨0x20, 1, 0⟩, ⟨0x21, 0, 0⟩, ⟨0x22, 1, 0⟩, ⟨0x23, 0, 0⟩, ⟨0x24, 0, 0⟩, ⟨0x25, 0, 0⟩, ⟨0x26, 0, 0⟩ ]

/-- The row of a command code, if the code is in Table 11-2. -/
def commandRow (code : Byte) : Option CommandRow := commandTable.find? (fun r => r.code == code)

/-- The operand length of a code: Table 11-2, or 0 for a code not in that table (R176). -/
def operandLength (code : Byte) : Nat := ((commandRow code).map (·.operands)).getD 0

/-- The length of a command's data field (R178, Table 11-2). -/
def dataLength (code : Byte) : Nat := ((commandRow code).map (·.data)).getD 0

/-- The bytes received so far are a code with all its operands: the byte after them is the CRC byte (R176). -/
def frameComplete (frame : List Byte) : Bool :=
  match frame with
  | [] => false
  | code :: operands => operands.length == operandLength code

/-- The code and operand bytes of a management command (Tables 11-2 and 11-3); none for the other rows of the table. -/
def encodeFrame : Instr → Option (List Byte)
  | .status => some [0x01]
  | .takeEvents m => some [0x02, m.extractLsb' 8 8, m.extractLsb' 0 8]
  | .readFault p t => some [0x03, p, t]
  | .readSync t => some [0x04, t]
  | .readRecoveryReport => some [0x05]
  | .setAlerts m => some [0x08, m.extractLsb' 8 8, m.extractLsb' 0 8]
  | .setDevice d l p b => some [0x09, d, l.extractLsb' 8 8, l.extractLsb' 0 8, p, b]
  | .setSync m e c => some [0x0A, m, e, c.extractLsb' 8 8, c.extractLsb' 0 8]
  | .writeWindow n i l o d => some [0x10, n, i, l.extractLsb' 8 8, l.extractLsb' 0 8, o, d]
  | .setWindowCount n c => some [0x11, n, c]
  | .writeRegion n i b z r q =>
      some [0x12, n, i, b.extractLsb' 24 8, b.extractLsb' 16 8, b.extractLsb' 8 8, b.extractLsb' 0 8,
        z.extractLsb' 32 8, z.extractLsb' 24 8, z.extractLsb' 16 8, z.extractLsb' 8 8, z.extractLsb' 0 8, r, q]
  | .setRegionCount n c => some [0x13, n, c]
  | .writePortSettings n p h q => some [0x14, n, p, h.extractLsb' 8 8, h.extractLsb' 0 8, q]
  | .writeCosts n o b => some [0x15, n, o, b]
  | .readPlanItem n t i => some [0x16, n, t, i]
  | .copyPlan => some [0x17]
  | .checkPlan n => some [0x18, n]
  | .requestSwap n => some [0x20, n]
  | .withdrawSwap => some [0x21]
  | .start m => some [0x22, m]
  | .halt => some [0x23]
  | .haltNow => some [0x24]
  | .recover => some [0x25]
  | .resetGate => some [0x26]
  | .por | .rst | .linkReset _ | .linkResetRelease _ | .gateTick | .windowExpiry | .holdLimitExpiry _
  | .checkCompletion | .timeout | .recoveryPulseEnd _ | .memrdyAsserted | .readyWaitExpiry | .resetStep
  | .syncEdge _ | .requestArrival _ _ | .grant _ | .memoryResponse _ | .chipSelectFall | .chipSelectRise _
  | .badCrc _ _ | .unknown _ | .linkByte _ | .resetRelease => none

/-- The management command a complete frame carries (R178, Tables 11-2 and 11-3); none for a code not in Table 11-2
or a wrong number of operand bytes. -/
def decodeFrame : List Byte → Option Instr
  | [] => none
  | code :: operands =>
    match code.toNat, operands with
    | 0x01, [] => some .status
    | 0x02, [a, b] => some (.takeEvents (a ++ b))
    | 0x03, [p, t] => some (.readFault p t)
    | 0x04, [t] => some (.readSync t)
    | 0x05, [] => some .readRecoveryReport
    | 0x08, [a, b] => some (.setAlerts (a ++ b))
    | 0x09, [d, a, b, p, o] => some (.setDevice d (a ++ b) p o)
    | 0x0A, [m, e, a, b] => some (.setSync m e (a ++ b))
    | 0x10, [n, i, a, b, o, d] => some (.writeWindow n i (a ++ b) o d)
    | 0x11, [n, c] => some (.setWindowCount n c)
    | 0x12, [n, i, a, b, c, d, e, f, g, h, j, r, q] =>
        some (.writeRegion n i (a ++ b ++ c ++ d) (e ++ f ++ g ++ h ++ j) r q)
    | 0x13, [n, c] => some (.setRegionCount n c)
    | 0x14, [n, p, a, b, q] => some (.writePortSettings n p (a ++ b) q)
    | 0x15, [n, o, b] => some (.writeCosts n o b)
    | 0x16, [n, t, i] => some (.readPlanItem n t i)
    | 0x17, [] => some .copyPlan
    | 0x18, [n] => some (.checkPlan n)
    | 0x20, [n] => some (.requestSwap n)
    | 0x21, [] => some .withdrawSwap
    | 0x22, [m] => some (.start m)
    | 0x23, [] => some .halt
    | 0x24, [] => some .haltNow
    | 0x25, [] => some .recover
    | 0x26, [] => some .resetGate
    | _, _ => none

/-- The command that a word spells by the bits of spec/opcode_table.json. No row of the table gives bits, so no word
spells a command (log entry 1). -/
def decodeTableWord (_nbits _w : Nat) : Option Instr := none

end Sys2Proof
end

