-- ==== Sys2Proof/Machine/State.lean ====
section
/-! DEFINITION. The state of the BG44 as plain data, block by block (Table 0-1), the reasons a step can stop, and the
state after reset. -/

namespace Sys2Proof.Machine

/-- A value for each of the four master ports. -/
structure PerPort (α : Type) where
  p0 : α
  p1 : α
  p2 : α
  p3 : α
deriving DecidableEq, Repr

/-- The value of one port. -/
def PerPort.get {α : Type} (x : PerPort α) : Port → α
  | .p0 => x.p0
  | .p1 => x.p1
  | .p2 => x.p2
  | .p3 => x.p3

/-- The value of one port replaced. -/
def PerPort.set {α : Type} (x : PerPort α) (p : Port) (v : α) : PerPort α :=
  match p with
  | .p0 => { x with p0 := v }
  | .p1 => { x with p1 := v }
  | .p2 => { x with p2 := v }
  | .p3 => { x with p3 := v }

/-- One value for every port. -/
def PerPort.all {α : Type} (v : α) : PerPort α := ⟨v, v, v, v⟩

/-- The two plans, A and B (R1). -/
inductive PlanName where
  | a | b
deriving DecidableEq, Repr

/-- The plan that is not the named one. -/
def PlanName.other : PlanName → PlanName
  | .a => .b
  | .b => .a

/-- A value for each of the two plans. -/
structure PerPlan (α : Type) where
  a : α
  b : α
deriving DecidableEq, Repr

/-- The value of one plan. -/
def PerPlan.get {α : Type} (x : PerPlan α) : PlanName → α
  | .a => x.a
  | .b => x.b

/-- The value of one plan replaced. -/
def PerPlan.set {α : Type} (x : PerPlan α) (n : PlanName) (v : α) : PerPlan α :=
  match n with
  | .a => { x with a := v }
  | .b => { x with b := v }

/-! ### The plan store (Chapter 1) -/

/-- A window record (R2). Length 0 means unwritten. Bit n of the open set stands for Pn (Table 11-3). -/
structure Window where
  length  : Nat
  openSet : BitVec 4
  drain   : Bool
deriving DecidableEq, Repr

/-- The window record left by power-on (Table 1-2). -/
def Window.unwritten : Window := ⟨0, 0, false⟩

/-- The rights of a port in a region (R3). -/
inductive Rights where
  | none | read | readWrite
deriving DecidableEq, Repr

/-- A region record (R3). Size 0 means unwritten. -/
structure Region where
  base    : Addr
  size    : Nat
  rights  : PerPort Rights
  posting : Bool
deriving DecidableEq, Repr

/-- The region record left by power-on (Table 1-2). -/
def Region.unwritten : Region := ⟨0, 0, PerPort.all .none, false⟩

/-- The settings of a port in a plan (R4). Hold limit 0 means no limit. -/
structure PortSettings where
  holdLimit : Nat
  quota     : Nat
deriving DecidableEq, Repr

/-- The nine derived values of a plan (R6). -/
structure Derived where
  longestOpen   : PerPort Nat
  longestRetire : PerPort Nat
  frameLength   : Nat
deriving DecidableEq, Repr

/-- The derived values from which CHECK builds, and those power-on leaves (R6, R20). -/
def Derived.zero : Derived := ⟨PerPort.all 0, PerPort.all 0, 0⟩

/-- The failures CHECK finds, with the index R7 gives each (Table 1-5). -/
inductive CheckFailure where
  | noWindows
  | windowUnset (index : Nat)
  | allQuiet
  | regionUnset (index : Nat)
  | regionRange (index : Nat)
  | stranded (port : Port)
deriving DecidableEq, Repr

/-- A check report (R7): the warning set is carried by PASSED alone. -/
inductive Report where
  | none
  | passed (unreachable : PerPort Bool) (noRegions : Bool)
  | failed (failure : CheckFailure)
deriving DecidableEq, Repr

/-- The state of a plan (R9). -/
inductive PlanState where
  | edit | checking | ready | active
deriving DecidableEq, Repr

/-- A plan: the parts of Table 1-1 and its state (R1, R9). -/
structure Plan where
  windowCount : Nat
  windows     : Vector Window 32
  regionCount : Nat
  regions     : Vector Region 16
  settings    : PerPort PortSettings
  overhead    : Nat
  beatCost    : Nat
  derived     : Derived
  report      : Report
  state       : PlanState
deriving DecidableEq, Repr

/-- The contents power-on gives a plan (Table 1-2). -/
def Plan.powerOn : Plan where
  windowCount := 0
  windows := Vector.replicate 32 Window.unwritten
  regionCount := 0
  regions := Vector.replicate 16 Region.unwritten
  settings := PerPort.all ⟨0, 0⟩
  overhead := 0
  beatCost := 1
  derived := Derived.zero
  report := .none
  state := .edit

/-- Where a check stands: the next visit, or its finding with the completion still to come (R19). -/
inductive CheckPoint where
  | window (index : Nat)
  | region (index : Nat)
  | finish (failure : Option CheckFailure)
deriving DecidableEq, Repr

/-- A check in progress (R18 to R20). `due` holds from the gate tick at which it completes to CHECK_COMPLETION. -/
structure CheckRun where
  plan  : PlanName
  point : CheckPoint
  built : Derived
  due   : Bool
deriving DecidableEq, Repr

/-! ### The schedule controller (Chapter 2) -/

/-- The gate states (Table 2-2). -/
inductive GateState where
  | stopped | armed | running | halting | faulted
deriving DecidableEq, Repr

/-- The schedule controller's state (Table 2-1). `walkOwed` is the model's own: it holds from a gate tick at which the
current window expires to WINDOW_EXPIRY, while that tick's share of the walk is still to be taken (log entry 4). -/
structure Schedule where
  gate         : GateState
  window       : Nat
  offset       : Nat
  frame        : FrameNumber
  pendingSwap  : Option PlanName
  pendingHalt  : Bool
  startOnSync  : Bool
  openLines    : BitVec 4
  frameLine    : Bool
  walkOwed     : Bool
deriving DecidableEq, Repr

/-! ### Port units, hold queues and responses (Chapters 3 and 5) -/

/-- A held-request record (Table 5-1). A deadline of 0 is one that the last gate tick brought to 0 and whose LATE
answer is still to be given (log entry 4). -/
structure Held where
  tag      : Tag
  kind     : Kind
  addr     : Addr
  beats    : Nat
  data     : List Beat
  cost     : Option Nat
  deadline : Option Nat
deriving DecidableEq, Repr

/-- Response statuses (Table 3-3). -/
inductive Status where
  | okay | denied | tooLong | late | closed | memFault | protocol
deriving DecidableEq, Repr

/-- A response on a master port (Table 3-2). -/
structure Response where
  tag    : Tag
  status : Status
  posted : Bool
  data   : Option (List BeatData)
deriving DecidableEq, Repr

/-- A port unit with its hold queue, head first: the outstanding-tag set (R60), the queue (R80) and the link-reset
state, which follows the level of LRSTn (R65). -/
structure PortUnit where
  tags      : List Tag
  queue     : List Held
  linkReset : Bool
deriving DecidableEq, Repr

/-! ### The posted-write buffer (Chapter 6) -/

/-- The state of a posted entry (Table 6-1). IN_FLIGHT names the issue tag of its issue-list entry, which is how the
model says which posted entry a POSTED source is (log entry 9). -/
inductive PostedState where
  | waiting
  | inFlight (tag : IssueTag)
deriving DecidableEq, Repr

/-- A posted entry (Table 6-1). Posting plan none is the manual's NONE. -/
structure PostedEntry where
  port  : Port
  tag   : Tag
  addr  : Addr
  beats : Nat
  data  : List Beat
  plan  : Option PlanName
  state : PostedState
deriving DecidableEq, Repr

/-! ### The issue arbiter and the memory port (Chapters 7 and 8) -/

/-- The contenders of the issue arbiter (Table 7-1). -/
inductive Contender where
  | port (p : Port)
  | retire
deriving DecidableEq, Repr

/-- The source of an issue-list entry (Table 7-2). -/
inductive Source where
  | port (p : Port) (tag : Tag)
  | posted
deriving DecidableEq, Repr

/-- An issue-list entry (Table 7-2). -/
structure IssueEntry where
  issueTag : IssueTag
  source   : Source
  kind     : Kind
  addr     : Addr
  beats    : Nat
  age      : Nat
  orphan   : Bool
deriving DecidableEq, Repr

/-- An access presented to the memory (R126 step 4). -/
structure MemIssue where
  issueTag : IssueTag
  kind     : Kind
  addr     : Addr
  beats    : Nat
  data     : List Beat
deriving DecidableEq, Repr

/-- Memory port states (R139). -/
inductive MemState where
  | ready | failed | resetting
deriving DecidableEq, Repr

/-- The two kinds of memory failure (R141, R142). -/
inductive FailureKind where
  | timeout | order
deriving DecidableEq, Repr

/-- The outcome field of the recovery report (R144). -/
inductive RecoveryOutcome where
  | none | inProgress | succeeded | failed
deriving DecidableEq, Repr

/-- The recovery report (R144). -/
structure RecoveryReport where
  reason   : Option FailureKind
  frame    : Option FrameNumber
  lost     : Nat
  answered : Nat
  outcome  : RecoveryOutcome
deriving DecidableEq, Repr

/-- The recovery report after reset (R144). -/
def RecoveryReport.empty : RecoveryReport := ⟨none, none, 0, 0, .none⟩

/-- Where a recovery stands, with the gate ticks it has left. Zero ticks left is a pulse or a wait that the last gate
tick brought to its end and whose end is still to be taken (R149 to R151, log entry 4). -/
inductive Recovery where
  | idle
  | pulse (left : Nat)
  | wait (left : Nat)
deriving DecidableEq, Repr

/-- The memory port (Chapters 7 and 8): its state, issue list (oldest first), recovery, report, MEMRST (asserted =
true), and the level of MEMRDY as the commands last gave it. -/
structure MemoryPort where
  state     : MemState
  issueList : List IssueEntry
  recovery  : Recovery
  report    : RecoveryReport
  memrst    : Bool
  memrdy    : Bool
deriving DecidableEq, Repr

/-! ### The sync unit (Chapter 9) -/

/-- Sync modes (R153). -/
inductive SyncMode where
  | off | observe | align
deriving DecidableEq, Repr

/-- Outcomes of a selected edge (R155). -/
inductive SyncOutcome where
  | none | started | observed | inStep | earlyCut | lateRewind | outOfLimit
deriving DecidableEq, Repr

/-- The five optional fields of the capture record, present together (R155). -/
structure CapturePosition where
  frame  : FrameNumber
  window : Nat
  offset : Nat
  ticks  : Nat
  length : Nat
deriving DecidableEq, Repr

/-- The capture record (R155). -/
structure Capture where
  valid    : Bool
  outcome  : SyncOutcome
  position : Option CapturePosition
deriving DecidableEq, Repr

/-- The sync unit (R153, R155), and the level of SYNC as the last change left it. -/
structure SyncUnit where
  mode    : SyncMode
  edge    : SyncEdge
  limit   : Nat
  capture : Capture
  level   : Bool
deriving DecidableEq, Repr

/-! ### The event unit (Chapter 10) -/

/-- Event kinds, in the order of Table 10-1 and of the bits of Table 11-3. -/
inductive EventKind where
  | accessFault | postedLost | memoryFailed | recoveryDone | checkDone | swapDone
  | gateStopped | syncCaptured | syncLost | frameStart | portReset | linkError
deriving DecidableEq, Repr

/-- Fault reasons, in the order of Table 10-3. -/
inductive FaultReason where
  | misaligned | boundary | tagInUse | noRegion | spans | rights | noWindow | tooLong | late
  | memError | memAbandoned | postedFailed | postedAbandoned
deriving DecidableEq, Repr

/-- The fields of a fault handed to the event unit (R172, R173). -/
structure FaultInfo where
  reason : FaultReason
  tag    : Tag
  kind   : Kind
  addr   : Addr
  beats  : Nat
  window : Option Nat
  plan   : Option PlanName
  frame  : Option FrameNumber
deriving DecidableEq, Repr

/-- A fault record (R171): the first fault (none when empty) and the later count. -/
structure FaultRecord where
  first : Option FaultInfo
  later : Nat
deriving DecidableEq, Repr

/-- The empty fault record (R171). -/
def FaultRecord.empty : FaultRecord := ⟨none, 0⟩

/-- The event unit: the event set and the alert enable set, bit k standing for kind k of Table 11-3, the ALERT line,
and the four fault records (Chapter 10). -/
structure EventUnit where
  set     : BitVec 12
  enabled : BitVec 12
  alert   : Bool
  faults  : PerPort FaultRecord
deriving DecidableEq, Repr

/-! ### The management link (Chapter 11) -/

/-- Result codes (Table 11-1). -/
inductive Result where
  | done | accepted | busy | wrongState | badArg | planActive | notReady | badCrc | unknown | truncated
deriving DecidableEq, Repr

/-- Transaction states (R176). -/
inductive LinkPhase where
  | idle | command | response | trail
deriving DecidableEq, Repr

/-- The management link: the transaction state, whether chip-select is low, the bytes received in COMMAND, the bytes
still to be shifted out in RESPONSE, the byte the data output last gave, the last-command result with its code, the
reset-in-progress flag (R189), and whether the reset step fell due at the last gate tick (R190, log entry 4). -/
structure Link where
  phase      : LinkPhase
  selected   : Bool
  frame      : List Byte
  response   : List Byte
  dataOut    : Byte
  lastResult : Result
  lastCode   : Byte
  resetting  : Bool
  resetDue   : Bool
deriving DecidableEq, Repr

/-- The device settings (R184). -/
structure Device where
  divider  : Nat
  limit    : Nat
  pulse    : Nat
  bootPass : Bool
deriving DecidableEq, Repr

/-- What the part presents on its response channels and on the memory's request channel at one command: the responses
given on each port in the order they are given (R61), and the accesses presented to the memory (R126). -/
structure Outputs where
  responses : PerPort (List Response)
  issues    : List MemIssue
deriving DecidableEq, Repr

/-- Nothing presented. -/
def Outputs.none : Outputs := ⟨PerPort.all [], []⟩

/-- The state of the part. `ticked` is the count of reference-clock cycles toward the next gate tick (R27). `inReset`
holds from POR or RST to the release. `out` is what the last command presented. `pending` is the queue of commands
waiting, first in, first out. -/
structure State where
  ports      : PerPort PortUnit
  plans      : PerPlan Plan
  check      : Option CheckRun
  sched      : Schedule
  posted     : List PostedEntry
  lastWinner : Contender
  mem        : MemoryPort
  sync       : SyncUnit
  events     : EventUnit
  link       : Link
  device     : Device
  ticked     : Nat
  inReset    : Bool
  out        : Outputs
  pending    : List Instr
deriving DecidableEq, Repr

/-- Reasons the machine stops. There are none: the manual stops the part on no command, and every error it describes
is a response, a result code, a fault record or a gate state. Safe. -/
inductive Fault where
deriving DecidableEq, Repr

/-- Reasons a command has no meaning. -/
inductive Refusal where
  /-- Raised by `exec` alone, for a row of the table not modelled yet. Safe: the machine stops. No arm answers it now. -/
  | notModelled (mnemonic : String)
deriving DecidableEq, Repr

/-! ### Reset values -/

/-- The schedule controller after POR, RST and soft reset (Table 2-1). -/
def Schedule.initial : Schedule where
  gate := .stopped
  window := 0
  offset := 0
  frame := 0
  pendingSwap := none
  pendingHalt := false
  startOnSync := false
  openLines := 0
  frameLine := false
  walkOwed := false

/-- The capture record after reset (R155). -/
def Capture.empty : Capture := ⟨false, .none, none⟩

/-- The device settings after reset (Table 11-6). -/
def Device.initial : Device :=
  ⟨Config.resetDivider, Config.resetResponseLimit, Config.resetPulse, Config.resetBootPass⟩

/-- The part right after power-on reset has been released, with nothing received. The levels of the input pins (LRSTn
released, chip-select high, SYNC and MEMRDY low) and the data output of the link at 0xFF are the model's choice
(log entry 2). -/
def State.reset : State where
  ports := PerPort.all ⟨[], [], false⟩
  plans := ⟨Plan.powerOn, Plan.powerOn⟩
  check := none
  sched := Schedule.initial
  posted := []
  lastWinner := .retire
  mem := ⟨.ready, [], .idle, RecoveryReport.empty, false, false⟩
  sync := ⟨.off, .rising, 0, Capture.empty, false⟩
  events := ⟨0, 0, false, PerPort.all FaultRecord.empty⟩
  link := ⟨.idle, false, [], [], 0xFF, .done, 0x00, false, false⟩
  device := Device.initial
  ticked := 0
  inReset := false
  out := Outputs.none
  pending := []

end Sys2Proof.Machine
end

