-- ==== Sys2Proof/Machine/Flags.lean ====
section
/-! DEFINITION. The part's flags and lines: raising event kinds, the ALERT line, the fault records (Chapter 10). -/

namespace Sys2Proof.Machine

/-- The bit of an event kind in the event set and in the masks (Table 11-3). -/
def eventIndex : EventKind → Nat
  | .accessFault => 0
  | .postedLost => 1
  | .memoryFailed => 2
  | .recoveryDone => 3
  | .checkDone => 4
  | .swapDone => 5
  | .gateStopped => 6
  | .syncCaptured => 7
  | .syncLost => 8
  | .frameStart => 9
  | .portReset => 10
  | .linkError => 11

/-- The set that holds one kind. -/
def eventBit (k : EventKind) : BitVec 12 := 1#12 <<< eventIndex k

/-- ALERT set to its level: asserted if the event set and the enable set share a kind (R169, R170). -/
def settleAlert (e : EventUnit) : EventUnit := { e with alert := (e.set &&& e.enabled) != 0 }

/-- An event kind is raised: added to the event set if it is not there, and ALERT follows (R165, R169). -/
def raise (k : EventKind) (s : State) : State :=
  { s with events := settleAlert { s.events with set := s.events.set ||| eventBit k } }

/-- A fault taken into a port's record: it fills an empty record, and raises the later count of an occupied one up to
255 (R172). -/
def recordFault (i : FaultInfo) (r : FaultRecord) : FaultRecord :=
  match r.first with
  | none => { r with first := some i }
  | some _ => { r with later := min (r.later + 1) Config.maxLaterCount }

/-- A fault of port `p` is handed to the event unit, which raises ACCESS_FAULT (R172). -/
def handFault (p : Port) (i : FaultInfo) (s : State) : State :=
  raise .accessFault
    { s with events := { s.events with faults := s.events.faults.set p (recordFault i (s.events.faults.get p)) } }

end Sys2Proof.Machine
end

