-- ==== Sys2Proof/Machine/Ops.lean ====
section
/-! DEFINITION. The operations every block shares: what the active plan and the gate state are, giving a response,
clearing a hold queue, and how a command becomes a step of the machine. -/

namespace Sys2Proof.Machine

/-! ### Commands as steps -/

/-- Nothing presented on the response channels and the memory's request channel. -/
def quiet (s : State) : State := { s with out := Outputs.none }

/-- A command that reaches the part while it is out of reset. While RSTn is asserted, and during power-on, the blocks
hold their reset values and no event reaches them (R26, R154, R169; log entry 3). -/
def onEvent (f : State → State) (s : State) : Host.Outcome State Fault Refusal :=
  .next (if s.inReset then quiet s else f (quiet s))

/-! ### The active plan and the window position -/

/-- The plan that is ACTIVE, if any (R9, R25). -/
def activePlan (s : State) : Option PlanName :=
  if s.plans.a.state = .active then some .a
  else if s.plans.b.state = .active then some .b
  else none

/-- The contents of the active plan. No block reads a plan's contents while none is ACTIVE (R68, R112); the contents
power-on leaves stand in that place. -/
def governing (s : State) : Plan :=
  match activePlan s with
  | some n => s.plans.get n
  | none => Plan.powerOn

/-- The gate is RUNNING or HALTING: windows govern traffic and the walk advances (Table 2-2). -/
def walking (s : State) : Bool := s.sched.gate = .running || s.sched.gate = .halting

/-- The window record of an index. -/
def windowAt (plan : Plan) (i : Nat) : Window := plan.windows.toList.getD i Window.unwritten

/-- The region record of an index. -/
def regionAt (plan : Plan) (i : Nat) : Region := plan.regions.toList.getD i Region.unwritten

/-- The counted windows, in walk order (R2). -/
def countedWindows (plan : Plan) : List Window := plan.windows.toList.take plan.windowCount

/-- The counted regions, in index order (R3). -/
def countedRegions (plan : Plan) : List Region := plan.regions.toList.take plan.regionCount

/-- The current window of the active plan. -/
def currentWindow (s : State) : Window := windowAt (governing s) s.sched.window

/-- The ticks remaining in the current window: its length minus the offset (R29). -/
def ticksRemaining (s : State) : Nat := (currentWindow s).length - s.sched.offset

/-- The number of a port, which is its bit in an open set (Table 11-3). -/
def portIndex : Port → Nat
  | .p0 => 0
  | .p1 => 1
  | .p2 => 2
  | .p3 => 3

/-- The window is open to the port (R2). -/
def openTo (w : Window) (p : Port) : Bool := w.openSet.getLsbD (portIndex p)

/-- A window with an empty open set and drain=no (R2). -/
def quietWindow (w : Window) : Bool := w.openSet == 0 && !w.drain

/-- The cost of a request of `beats` beats under a plan (R5). -/
def planCost (plan : Plan) (beats : Nat) : Nat := plan.overhead + beats * plan.beatCost

/-- The number of bytes of a span (R49). -/
def spanBytes (beats : Nat) : Nat := beats * Config.beatBytes

/-- Two spans share a byte (Table 0-2, "Overlap"). -/
def spansOverlap (a : Addr) (aBeats : Nat) (b : Addr) (bBeats : Nat) : Bool :=
  a.toNat < b.toNat + spanBytes bBeats && b.toNat < a.toNat + spanBytes aBeats

/-- A plan replaced by what a function makes of it. -/
def mapPlan (n : PlanName) (f : Plan → Plan) (s : State) : State :=
  { s with plans := s.plans.set n (f (s.plans.get n)) }

/-- A fault at this event, with its optional fields: window index and frame number when the gate is RUNNING or
HALTING, the plan when one is ACTIVE (R173). -/
def faultNow (s : State) (reason : FaultReason) (tag : Tag) (kind : Kind) (addr : Addr) (beats : Nat) : FaultInfo where
  reason := reason
  tag := tag
  kind := kind
  addr := addr
  beats := beats
  window := if walking s then some s.sched.window else none
  plan := activePlan s
  frame := if walking s then some s.sched.frame else none

/-! ### Responses -/

/-- A port unit replaced by what a function makes of it. -/
def mapPort (p : Port) (f : PortUnit → PortUnit) (s : State) : State :=
  { s with ports := s.ports.set p (f (s.ports.get p)) }

/-- A response given on a port at this event (R61). -/
def give (p : Port) (r : Response) (s : State) : State :=
  { s with out := { s.out with responses := s.out.responses.set p (s.out.responses.get p ++ [r]) } }

/-- The answer to a request whose tag is outstanding: the response is given and the tag leaves the set at the same
event (R60, R61). Every such response carries posted=no (R50). -/
def answer (p : Port) (tag : Tag) (status : Status) (data : Option (List BeatData)) (s : State) : State :=
  mapPort p (fun u => { u with tags := u.tags.filter (· != tag) }) (give p ⟨tag, status, false, data⟩ s)

/-- Every held request of a port answered with one status, head first, and its queue emptied (R97, R99). No fault. -/
def clearQueue (status : Status) (p : Port) (s : State) : State :=
  (s.ports.get p).queue.foldl (fun t h => answer p h.tag status none t) (mapPort p (fun u => { u with queue := [] }) s)

end Sys2Proof.Machine
end

