-- ==== Sys2Proof/Machine/Operands.lean ====
section
/-! DEFINITION. The operand and field codes of Table 11-3, and the data layouts of Tables 11-4, 11-5 and 11-7. -/

namespace Sys2Proof.Machine

/-! ### Operands -/

/-- A plan operand (Table 11-3); none when it names neither A nor B. -/
def planOf (b : Byte) : Option PlanName :=
  if b = 0x00 then some .a else if b = 0x01 then some .b else none

/-- A port operand (Table 11-3); none above 3. -/
def portOf (b : Byte) : Option Port :=
  if b = 0x00 then some .p0 else if b = 0x01 then some .p1 else if b = 0x02 then some .p2
  else if b = 0x03 then some .p3 else none

/-- A take flag or boot pass flag (Table 11-3); none for a value that is neither. -/
def flagOf (b : Byte) : Option Bool :=
  if b = 0x00 then some false else if b = 0x01 then some true else none

/-- A drain or posting-allowed flag: any value but 0x00 is yes (Table 11-3). -/
def looseFlagOf (b : Byte) : Bool := b != 0x00

/-- The open set: bit n for Pn, bits 4 to 7 ignored (Table 11-3). -/
def openSetOf (b : Byte) : BitVec 4 := b.setWidth 4

/-- The two bits of one port's rights (Table 11-3); none for 11. -/
def rightOf (b : BitVec 2) : Option Rights :=
  if b = 0b00 then some .none else if b = 0b01 then some .read else if b = 0b10 then some .readWrite else none

/-- The rights operand, P0 in bits 1:0 to P3 in bits 7:6 (Table 11-3); none when a value is out of range. -/
def rightsOf (b : Byte) : Option (PerPort Rights) :=
  match rightOf (b.extractLsb' 0 2), rightOf (b.extractLsb' 2 2), rightOf (b.extractLsb' 4 2), rightOf (b.extractLsb' 6 2) with
  | some r0, some r1, some r2, some r3 => some ⟨r0, r1, r2, r3⟩
  | _, _, _, _ => none

/-- The divider a code stands for (Table 11-3); none above 0x08. -/
def dividerOf (b : Byte) : Option Nat :=
  if b.toNat ≤ Config.maxDividerCode then some (2 ^ b.toNat) else none

/-- A sync mode operand (Table 11-3). -/
def syncModeOf (b : Byte) : Option SyncMode :=
  if b = 0x00 then some .off else if b = 0x01 then some .observe else if b = 0x02 then some .align else none

/-- A sync edge operand (Table 11-3). -/
def syncEdgeOf (b : Byte) : Option SyncEdge :=
  if b = 0x00 then some .rising else if b = 0x01 then some .falling else none

/-- An event mask operand: bits 12 to 15 stand for no kind (Table 11-3). -/
def eventMaskOf (m : BitVec 16) : Option (BitVec 12) :=
  if m.extractLsb' 12 4 = 0 then some (m.setWidth 12) else none

/-! ### Codes of returned fields -/

/-- Result codes (Table 11-1). -/
def resultCode : Result → Byte
  | .done => 0x00
  | .accepted => 0x01
  | .busy => 0x02
  | .wrongState => 0x03
  | .badArg => 0x04
  | .planActive => 0x05
  | .notReady => 0x06
  | .badCrc => 0x07
  | .unknown => 0x08
  | .truncated => 0x09

/-- A plan, or 0xFF for none (Table 11-3). -/
def planCode : Option PlanName → Byte
  | some .a => 0x00
  | some .b => 0x01
  | none => 0xFF

/-- A plan in a data field that reads 0x00 when absent (R182). -/
def planField : Option PlanName → Byte
  | none => 0x00
  | some n => planCode (some n)

/-- Gate states (Table 11-3). -/
def gateCode : GateState → Byte
  | .stopped => 0
  | .armed => 1
  | .running => 2
  | .halting => 3
  | .faulted => 4

/-- Memory port states (Table 11-3). -/
def memStateCode : MemState → Byte
  | .ready => 0
  | .failed => 1
  | .resetting => 2

/-- Plan states (Table 11-3). -/
def planStateCode : PlanState → Byte
  | .edit => 0
  | .checking => 1
  | .ready => 2
  | .active => 3

/-- Kinds (Table 11-3). -/
def kindCode : Kind → Byte
  | .read => 0
  | .write => 1

/-- Fault reasons, 1 to 13 in the order of Table 10-3 (Table 11-3). -/
def faultReasonCode : FaultReason → Byte
  | .misaligned => 1
  | .boundary => 2
  | .tagInUse => 3
  | .noRegion => 4
  | .spans => 5
  | .rights => 6
  | .noWindow => 7
  | .tooLong => 8
  | .late => 9
  | .memError => 10
  | .memAbandoned => 11
  | .postedFailed => 12
  | .postedAbandoned => 13

/-- Outcomes of a selected edge (Table 11-4). -/
def syncOutcomeCode : SyncOutcome → Byte
  | .none => 0
  | .started => 1
  | .observed => 2
  | .inStep => 3
  | .earlyCut => 4
  | .lateRewind => 5
  | .outOfLimit => 6

/-- Reasons of the recovery report (Table 11-4). -/
def failureCode : Option FailureKind → Byte
  | none => 0
  | some .timeout => 1
  | some .order => 2

/-- Outcomes of the recovery report (Table 11-4). -/
def recoveryOutcomeCode : RecoveryOutcome → Byte
  | .none => 0
  | .inProgress => 1
  | .succeeded => 2
  | .failed => 3

/-- A flag as a data byte, 0x00 or 0x01. -/
def flagCode (b : Bool) : Byte := if b then 0x01 else 0x00

/-- Up to eight flags as one byte, the first in bit 0. -/
def flagBits : List Bool → Byte
  | [] => 0
  | b :: rest => (flagBits rest <<< 1) ||| flagCode b

/-- The two bits of a right (Table 11-3). -/
def rightBits : Rights → Byte
  | .none => 0
  | .read => 1
  | .readWrite => 2

/-- The rights byte (Table 11-3). -/
def rightsCode (r : PerPort Rights) : Byte :=
  rightBits r.p0 ||| (rightBits r.p1 <<< 2) ||| (rightBits r.p2 <<< 4) ||| (rightBits r.p3 <<< 6)

/-- A count as one byte. -/
def countByte (n : Nat) : Byte := BitVec.ofNat 8 n

/-- One value of each port, in port order. -/
def portList {α : Type} (x : PerPort α) : List α := [x.p0, x.p1, x.p2, x.p3]

/-- The bytes of an optional field: 0x00 bytes when it is absent (R182). -/
def optionalBytes (n : Nat) (v : Option Nat) : List Byte := beBytes n (v.getD 0)

/-! ### Data layouts -/

/-- The posted count of a port: its entries in the buffer, WAITING and IN_FLIGHT together (R106). -/
def postedCount (s : State) (p : Port) : Nat := (s.posted.filter (fun e => e.port == p)).length

/-- The 26 data bytes of STATUS (Table 11-5). -/
def statusData (s : State) : List Byte :=
  [gateCode s.sched.gate, memStateCode s.mem.state, planCode (activePlan s),
    planStateCode s.plans.a.state, planStateCode s.plans.b.state, planCode s.sched.pendingSwap,
    flagBits [s.sched.pendingHalt, s.check.isSome, s.link.resetting, s.sched.startOnSync],
    countByte s.sched.window]
    ++ beBytes 2 s.sched.offset ++ beBytes 4 s.sched.frame.toNat
    ++ (portList s.ports).map (fun u => countByte u.queue.length)
    ++ [countByte (postedCount s .p0), countByte (postedCount s .p1), countByte (postedCount s .p2),
        countByte (postedCount s .p3), countByte s.posted.length, countByte s.mem.issueList.length,
        resultCode s.link.lastResult, s.link.lastCode]

/-- The 16 data bytes of READ FAULT (Table 11-4). -/
def faultData (r : FaultRecord) : List Byte :=
  match r.first with
  | none => List.replicate 15 0x00 ++ [countByte r.later]
  | some i =>
    [flagBits [true, i.window.isSome, i.plan.isSome, i.frame.isSome], faultReasonCode i.reason,
      countByte i.tag.val, kindCode i.kind] ++ beBytes 4 i.addr.toNat ++ [countByte i.beats]
      ++ optionalBytes 1 i.window ++ [planField i.plan] ++ optionalBytes 4 (i.frame.map (·.toNat))
      ++ [countByte r.later]

/-- The 15 data bytes of READ SYNC (Table 11-4). -/
def captureData (c : Capture) : List Byte :=
  [flagBits [c.valid, c.position.isSome], syncOutcomeCode c.outcome]
    ++ optionalBytes 4 (c.position.map (·.frame.toNat)) ++ optionalBytes 1 (c.position.map (·.window))
    ++ optionalBytes 2 (c.position.map (·.offset)) ++ optionalBytes 3 (c.position.map (·.ticks))
    ++ optionalBytes 3 (c.position.map (·.length))

/-- The 9 data bytes of READ RECOVERY REPORT (Table 11-4). -/
def recoveryReportData (r : RecoveryReport) : List Byte :=
  [failureCode r.reason, flagBits [r.frame.isSome]] ++ optionalBytes 4 (r.frame.map (·.toNat))
    ++ [countByte r.lost, countByte r.answered, recoveryOutcomeCode r.outcome]

/-- The outcome, failure reason, index and warnings of a check report (Table 11-7, item 5). -/
def reportBytes : Report → List Byte
  | .none => [0, 0, 0, 0]
  | .passed u n => [1, 0, 0, flagBits (portList u ++ [n])]
  | .failed .noWindows => [2, 1, 0, 0]
  | .failed (.windowUnset i) => [2, 2, countByte i, 0]
  | .failed .allQuiet => [2, 3, 0, 0]
  | .failed (.regionUnset i) => [2, 4, countByte i, 0]
  | .failed (.regionRange i) => [2, 5, countByte i, 0]
  | .failed (.stranded p) => [2, 6, countByte (portIndex p), 0]

/-- An item's bytes in the 20-byte data field of READ PLAN ITEM: the bytes after the item are 0x00 (R187). -/
def padItem (bytes : List Byte) : List Byte := bytes ++ List.replicate (20 - bytes.length) 0x00

/-- A window item (Table 11-7, item 0). -/
def windowItem (w : Window) : List Byte :=
  beBytes 2 w.length ++ [w.openSet.setWidth 8, flagCode w.drain]

/-- A region item (Table 11-7, item 1). -/
def regionItem (r : Region) : List Byte :=
  beBytes 4 r.base.toNat ++ beBytes 5 r.size ++ [rightsCode r.rights, flagCode r.posting]

/-- A port settings item (Table 11-7, item 2). -/
def settingsItem (c : PortSettings) : List Byte := beBytes 2 c.holdLimit ++ [countByte c.quota]

/-- The counts and costs item (Table 11-7, item 3). -/
def countsItem (p : Plan) : List Byte :=
  [countByte p.windowCount, countByte p.regionCount, countByte p.overhead, countByte p.beatCost]

/-- The derived values item (Table 11-7, item 4). -/
def derivedItem (d : Derived) : List Byte :=
  (portList d.longestOpen).flatMap (beBytes 2) ++ (portList d.longestRetire).flatMap (beBytes 2) ++ beBytes 3 d.frameLength

/-- The state and report item (Table 11-7, item 5). -/
def stateItem (p : Plan) (target : Bool) : List Byte :=
  [planStateCode p.state, flagCode target] ++ reportBytes p.report

/-- An item of a plan, padded; none when the selector or the index is out of range (R187, Table 11-7). -/
def planItem (s : State) (n : PlanName) (item index : Byte) : Option (List Byte) :=
  let p := s.plans.get n
  let i := index.toNat
  match item.toNat with
  | 0 => if i < Config.windowRecords then some (padItem (windowItem (windowAt p i))) else none
  | 1 => if i < Config.regionRecords then some (padItem (regionItem (regionAt p i))) else none
  | 2 => (portOf index).map (fun q => padItem (settingsItem (p.settings.get q)))
  | 3 => if i = 0 then some (padItem (countsItem p)) else none
  | 4 => if i = 0 then some (padItem (derivedItem p.derived)) else none
  | 5 => if i = 0 then some (padItem (stateItem p (s.sched.pendingSwap == some n))) else none
  | _ => none

end Sys2Proof.Machine
end

