-- ==== Sys2Proof/WellFormed.lean ====
section
/-! DEFINITION. The checks a command must meet to be one that the part's interfaces can carry. -/

namespace Sys2Proof

/-- The request is one the bus can carry: 1 to 16 beats, a WRITE with as many data beats, a READ with none (R49). -/
def Request.wellFormed (r : Request) : Bool :=
  1 ≤ r.beats && r.beats ≤ Config.maxBeats &&
    (match r.kind with
     | .read => r.data.length == 0
     | .write => r.data.length == r.beats)

/-- The operands of a command name an event that can come about. Only three rows carry an operand that can fail to: a
request the bus cannot carry (R49), a BAD_CRC whose frame is not complete or whose CRC matches (R176, R178), and an
UNKNOWN whose code is in Table 11-2 (R178). Every value of a management command's operands can be sent. -/
def Instr.wellFormed : Instr → Bool
  | .requestArrival _ r => r.wellFormed
  | .badCrc frame crc => frameComplete frame && crc8 frame != crc
  | .unknown code => (commandRow code).isNone
  | .por | .rst | .linkReset _ | .linkResetRelease _ | .gateTick | .windowExpiry | .holdLimitExpiry _
  | .checkCompletion | .timeout | .recoveryPulseEnd _ | .memrdyAsserted | .readyWaitExpiry | .resetStep
  | .syncEdge _ | .grant _ | .memoryResponse _ | .chipSelectFall | .chipSelectRise _
  | .status | .takeEvents _ | .readFault _ _ | .readSync _ | .readRecoveryReport | .setAlerts _
  | .setDevice _ _ _ _ | .setSync _ _ _ | .writeWindow _ _ _ _ _ | .setWindowCount _ _ | .writeRegion _ _ _ _ _ _
  | .setRegionCount _ _ | .writePortSettings _ _ _ _ | .writeCosts _ _ _ | .readPlanItem _ _ _ | .copyPlan
  | .checkPlan _ | .requestSwap _ | .withdrawSwap | .start _ | .halt | .haltNow | .recover | .resetGate
  | .linkByte _ | .resetRelease => true

end Sys2Proof
end

