-- ==== Sys2Proof/Machine/Link.lean ====
section
/-! DEFINITION. The management link: answering a frame, and taking a command at the last bit of its CRC byte (Chapter 11). -/

namespace Sys2Proof.Machine

/-- What a taken command returns: its result, and the data it returns when the result is DONE (R178). -/
structure Reply where
  result : Result
  data   : List Byte
deriving DecidableEq, Repr

/-- A reply without data. -/
def replyOnly (r : Result) : Reply := ⟨r, []⟩

/-- A command refused: nothing changes but what every answer changes (R178). -/
def refuse (r : Result) (s : State) : State × Reply := (s, replyOnly r)

/-- The data field of a response: the returned data when the result is DONE, else 0x00 bytes (R178). -/
def replyData (code : Byte) (r : Reply) : List Byte :=
  if r.result = .done then r.data else List.replicate (dataLength code) 0x00

/-- The response bytes: result code, data field, CRC (R177, R178). -/
def responseBytes (result : Result) (data : List Byte) : List Byte :=
  let body := resultCode result :: data
  body ++ [crc8 body]

/-- The link enters RESPONSE with the bytes to be shifted out (R176, R178). -/
def openResponse (bytes : List Byte) (s : State) : State :=
  { s with link := { s.link with phase := .response, frame := [], response := bytes } }

/-- The last-command result (R180). -/
def setLastResult (r : Result) (code : Byte) (s : State) : State :=
  { s with link := { s.link with lastResult := r, lastCode := code } }

/-- The command code of STATUS (Table 11-2). -/
def statusCode : Byte := 0x01

/-- The response to a taken command. A taken STATUS leaves the last-command result as it stands (R180). -/
def answerCommand (code : Byte) (r : Reply) (s : State) : State :=
  let t := if code = statusCode then s else setLastResult r.result code s
  openResponse (responseBytes r.result (replyData code r)) t

/-- A known command is taken: BUSY while RESET GATE is in progress, STATUS apart; else by its own rule (R178, R181). -/
def takeCommand (code : Byte) (rule : State → State × Reply) (s : State) : State :=
  if s.link.resetting && code != statusCode then answerCommand code (replyOnly .busy) s
  else
    let done := rule s
    answerCommand code done.2 done.1

/-- The CRC byte did not match (R178). -/
def answerBadCrc (code : Byte) (s : State) : State :=
  openResponse (responseBytes .badCrc []) (setLastResult .badCrc code (raise .linkError s))

/-- The CRC byte matched and the code is not in Table 11-2 (R178). -/
def answerUnknown (code : Byte) (s : State) : State :=
  openResponse (responseBytes .unknown []) (setLastResult .unknown code s)

/-- The bytes received in COMMAND are the first bytes of the frame. -/
def frameBegun (frame : List Byte) (s : State) : Bool := s.link.frame.isPrefixOf frame

/-- The link can receive this frame from where it stands: in COMMAND when the bytes received so far begin it. In IDLE,
RESPONSE and TRAIL the frame comes in a transaction of its own, after the rise and the fall of chip-select that it
needs; the rise changes nothing there but the transaction state (R176, R179; log entry 6). -/
def canReceive (frame : List Byte) (s : State) : Bool :=
  match s.link.phase with
  | .command => frameBegun frame s
  | .idle | .response | .trail => true

/-- The link in COMMAND with the code and operand bytes of a frame received, its data output at 0xFF (R176). -/
def receiveFrame (frame : List Byte) (s : State) : State :=
  { s with link := { s.link with phase := .command, selected := true, frame := frame, response := [], dataOut := 0xFF } }

/-- The step of a frame's CRC byte: the link receives what is left of the frame and takes the path `take` at the last
bit of the CRC byte. A frame the link cannot receive from where it stands is no event. -/
def frameStep (frame : List Byte) (take : State → State) (s : State) : Host.Outcome State Fault Refusal :=
  onEvent (fun s => if canReceive frame s then take (receiveFrame frame s) else s) s

/-- The step of a management command, with its frame by Table 11-2. -/
def commandStep (c : Instr) (rule : State → State × Reply) (s : State) : Host.Outcome State Fault Refusal :=
  match encodeFrame c with
  | some (code :: operands) => frameStep (code :: operands) (takeCommand code rule) s
  | _ => .next (quiet s)

end Sys2Proof.Machine
end

