-- ==== Sys2Proof/Machine/Events.lean ====
section
/-! DEFINITION. The commands that read: STATUS, TAKE EVENTS, READ FAULT, READ RECOVERY REPORT; and SET ALERTS (Chapters 10
and 11). -/

namespace Sys2Proof.Machine

/-- STATUS (R183). -/
def takeStatus (s : State) : State × Reply := (s, ⟨.done, statusData s⟩)

/-- The event set after the kinds of a mask have been removed, with ALERT (R166, R169). -/
def clearEvents (mask : BitVec 12) (s : State) : State :=
  { s with events := settleAlert { s.events with set := s.events.set &&& ~~~mask } }

/-- TAKE EVENTS (R166). -/
def takeTakeEvents (mask : BitVec 16) (s : State) : State × Reply :=
  match eventMaskOf mask with
  | none => refuse .badArg s
  | some m => (clearEvents m s, ⟨.done, beBytes 2 s.events.set.toNat⟩)

/-- SET ALERTS (R168). -/
def takeSetAlerts (kinds : BitVec 16) (s : State) : State × Reply :=
  match eventMaskOf kinds with
  | none => refuse .badArg s
  | some m => ({ s with events := settleAlert { s.events with enabled := m } }, replyOnly .done)

/-- A port's fault record emptied. -/
def emptyFault (p : Port) (s : State) : State :=
  { s with events := { s.events with faults := s.events.faults.set p FaultRecord.empty } }

/-- READ FAULT: the record as it stands; with take yes it is emptied (R174). -/
def takeReadFault (port take : Byte) (s : State) : State × Reply :=
  match portOf port, flagOf take with
  | some p, some taking =>
    (if taking then emptyFault p s else s, ⟨.done, faultData (s.events.faults.get p)⟩)
  | _, _ => refuse .badArg s

/-- READ RECOVERY REPORT (R188). -/
def takeReadRecoveryReport (s : State) : State × Reply := (s, ⟨.done, recoveryReportData s.mem.report⟩)

/-- STATUS as a step of the link. -/
def execStatus (s : State) : Host.Outcome State Fault Refusal := commandStep .status takeStatus s

/-- TAKE EVENTS as a step of the link. -/
def execTakeEvents (mask : BitVec 16) (s : State) : Host.Outcome State Fault Refusal :=
  commandStep (.takeEvents mask) (takeTakeEvents mask) s

/-- SET ALERTS as a step of the link. -/
def execSetAlerts (kinds : BitVec 16) (s : State) : Host.Outcome State Fault Refusal :=
  commandStep (.setAlerts kinds) (takeSetAlerts kinds) s

/-- READ FAULT as a step of the link. -/
def execReadFault (port take : Byte) (s : State) : Host.Outcome State Fault Refusal :=
  commandStep (.readFault port take) (takeReadFault port take) s

/-- READ RECOVERY REPORT as a step of the link. -/
def execReadRecoveryReport (s : State) : Host.Outcome State Fault Refusal :=
  commandStep .readRecoveryReport takeReadRecoveryReport s

end Sys2Proof.Machine
end

