-- ==== Sys2Proof/Machine/Plans.lean ====
section
/-! DEFINITION. The plan store: plan writes, COPY PLAN, CHECK and READ PLAN ITEM (Chapter 1, R187). -/

namespace Sys2Proof.Machine

/-! ### Plan writes -/

/-- What Table 1-4 refuses a plan write with, by the state of the named plan; none when it is taken. -/
def writeRefusal (s : State) (n : PlanName) : Option Result :=
  match (s.plans.get n).state with
  | .active => some .planActive
  | .checking => some .busy
  | .ready => if s.sched.pendingSwap = some n then some .wrongState else none
  | .edit => none

/-- A plan after a taken write: EDIT with report NONE (R7, R10 step 4). -/
def toEdit (p : Plan) : Plan := { p with state := .edit, report := .none }

/-- A plan write: the plan operand, the plan state, the ranges, then the write (R10). `change` is none when a value
operand is out of range. -/
def planWrite (plan : Byte) (change : Option (Plan → Plan)) (s : State) : State × Reply :=
  match planOf plan with
  | none => refuse .badArg s
  | some n =>
    match writeRefusal s n, change with
    | some r, _ => refuse r s
    | none, none => refuse .badArg s
    | none, some f => (mapPlan n (fun p => toEdit (f p)) s, replyOnly .done)

/-- The change WRITE WINDOW makes, if its operands are in range (R11). -/
def windowChange (index : Byte) (length : BitVec 16) (openSet drain : Byte) : Option (Plan → Plan) :=
  if index.toNat < Config.windowRecords ∧ length ≠ 0 then
    some (fun p => { p with
      windows := p.windows.setIfInBounds index.toNat ⟨length.toNat, openSetOf openSet, looseFlagOf drain⟩ })
  else none

/-- The change SET WINDOW COUNT makes (R12). -/
def windowCountChange (count : Byte) : Option (Plan → Plan) :=
  if count.toNat ≤ Config.windowRecords then some (fun p => { p with windowCount := count.toNat }) else none

/-- A region size that can be written: a multiple of 4 KiB from 4 KiB to 4 GiB (R3, R13). -/
def sizeInRange (size : Nat) : Bool :=
  size != 0 && size % Config.pageBytes == 0 && size ≤ Config.addressSpace

/-- The change WRITE REGION makes (R13). -/
def regionChange (index : Byte) (base : Addr) (size : BitVec 40) (rights posting : Byte) : Option (Plan → Plan) :=
  match rightsOf rights with
  | none => none
  | some r =>
    if index.toNat < Config.regionRecords ∧ base.toNat % Config.pageBytes = 0 ∧ sizeInRange size.toNat then
      some (fun p => { p with
        regions := p.regions.setIfInBounds index.toNat ⟨base, size.toNat, r, looseFlagOf posting⟩ })
    else none

/-- The change SET REGION COUNT makes (R14). -/
def regionCountChange (count : Byte) : Option (Plan → Plan) :=
  if count.toNat ≤ Config.regionRecords then some (fun p => { p with regionCount := count.toNat }) else none

/-- The change WRITE PORT SETTINGS makes (R15). -/
def settingsChange (port : Byte) (holdLimit : BitVec 16) (quota : Byte) : Option (Plan → Plan) :=
  match portOf port with
  | none => none
  | some q =>
    if quota.toNat ≤ Config.maxQuota then
      some (fun p => { p with settings := p.settings.set q ⟨holdLimit.toNat, quota.toNat⟩ })
    else none

/-- The change WRITE COSTS makes (R16). -/
def costsChange (overhead beatCost : Byte) : Option (Plan → Plan) :=
  if overhead.toNat ≤ Config.maxOverhead ∧ beatCost.toNat ≤ Config.maxBeatCost then
    some (fun p => { p with overhead := overhead.toNat, beatCost := beatCost.toNat })
  else none

/-- WRITE WINDOW (R10, R11). -/
def takeWriteWindow (plan index : Byte) (length : BitVec 16) (openSet drain : Byte) (s : State) : State × Reply :=
  planWrite plan (windowChange index length openSet drain) s

/-- SET WINDOW COUNT (R10, R12). -/
def takeSetWindowCount (plan count : Byte) (s : State) : State × Reply := planWrite plan (windowCountChange count) s

/-- WRITE REGION (R10, R13). -/
def takeWriteRegion (plan index : Byte) (base : Addr) (size : BitVec 40) (rights posting : Byte) (s : State) : State × Reply :=
  planWrite plan (regionChange index base size rights posting) s

/-- SET REGION COUNT (R10, R14). -/
def takeSetRegionCount (plan count : Byte) (s : State) : State × Reply := planWrite plan (regionCountChange count) s

/-- WRITE PORT SETTINGS (R10, R15). -/
def takeWritePortSettings (plan port : Byte) (holdLimit : BitVec 16) (quota : Byte) (s : State) : State × Reply :=
  planWrite plan (settingsChange port holdLimit quota) s

/-- WRITE COSTS (R10, R16). -/
def takeWriteCosts (plan overhead beatCost : Byte) (s : State) : State × Reply := planWrite plan (costsChange overhead beatCost) s

/-! ### COPY PLAN -/

/-- COPY PLAN: the active plan, records beyond the counts and derived values included, into the other plan, which
becomes EDIT with report NONE (R17). -/
def takeCopyPlan (s : State) : State × Reply :=
  match activePlan s with
  | none => refuse .notReady s
  | some n =>
    let target := n.other
    if (s.plans.get target).state = .checking then refuse .busy s
    else if s.sched.pendingSwap = some target then refuse .wrongState s
    else (mapPlan target (fun _ => toEdit (s.plans.get n)) s, replyOnly .done)

/-! ### CHECK -/

/-- Where a check begins: the first counted window, or the finding NO_WINDOWS (R19 step 1). -/
def firstPoint (p : Plan) : CheckPoint :=
  if p.windowCount = 0 then .finish (some .noWindows) else .window 0

/-- A window folded into the derived values being built (R20). -/
def foldWindow (w : Window) (d : Derived) : Derived where
  longestOpen := ⟨openMax .p0, openMax .p1, openMax .p2, openMax .p3⟩
  longestRetire := ⟨retireMax .p0, retireMax .p1, retireMax .p2, retireMax .p3⟩
  frameLength := d.frameLength + w.length
where
  /-- The longest open window of a port after the window. -/
  openMax (p : Port) : Nat := if openTo w p then max (d.longestOpen.get p) w.length else d.longestOpen.get p
  /-- The longest retire window of a port after the window. -/
  retireMax (p : Port) : Nat :=
    if openTo w p || w.drain then max (d.longestRetire.get p) w.length else d.longestRetire.get p

/-- Step 5 of CHECK: the first port with a quota above 0 and a longest retire window of 0 (R19). -/
def strandedPort (p : Plan) (d : Derived) : Option Port :=
  [Port.p0, .p1, .p2, .p3].find? (fun q => 0 < (p.settings.get q).quota && d.longestRetire.get q == 0)

/-- Steps 5 and 6 of CHECK: STRANDED, or passed (R19). -/
def lastTests (p : Plan) (d : Derived) : CheckPoint := .finish ((strandedPort p d).map .stranded)

/-- What follows region `i`, or the windows when `i` is 0: the next counted region, or the last tests (R19 steps 4 to 6). -/
def regionPoint (p : Plan) (d : Derived) (i : Nat) : CheckPoint :=
  if i < p.regionCount then .region i else lastTests p d

/-- What follows the last counted window: ALL_QUIET, or the regions (R19 step 3). -/
def afterWindows (p : Plan) (d : Derived) : CheckPoint :=
  if (countedWindows p).all quietWindow then .finish (some .allQuiet) else regionPoint p d 0

/-- The visit of window `i` (R19 step 2, R20): the next point and the values built. -/
def visitWindow (p : Plan) (d : Derived) (i : Nat) : CheckPoint × Derived :=
  let w := windowAt p i
  if w.length = 0 then (.finish (some (.windowUnset i)), d)
  else
    let built := foldWindow w d
    (if i + 1 < p.windowCount then .window (i + 1) else afterWindows p built, built)

/-- The visit of region `i` (R19 step 4). -/
def visitRegion (p : Plan) (d : Derived) (i : Nat) : CheckPoint :=
  let r := regionAt p i
  if r.size = 0 then .finish (some (.regionUnset i))
  else if Config.addressSpace < r.base.toNat + r.size then .finish (some (.regionRange i))
  else regionPoint p d (i + 1)

/-- A check's share of a gate tick: one visit, or the tick of its completion (R19). -/
def tickCheckRun (p : Plan) (c : CheckRun) : CheckRun :=
  match c.point with
  | .window i => let v := visitWindow p c.built i; { c with point := v.1, built := v.2 }
  | .region i => { c with point := visitRegion p c.built i }
  | .finish _ => { c with due := true }

/-- The check in progress, if any, takes its share of a gate tick (R26). -/
def tickCheck (s : State) : State := { s with check := s.check.map (fun c => tickCheckRun (s.plans.get c.plan) c) }

/-- UNREACHABLE(q): the port has rights in a counted region and its longest open window is 0 (R21). -/
def unreachable (p : Plan) (d : Derived) (q : Port) : Bool :=
  (countedRegions p).any (fun r => r.rights.get q != .none) && d.longestOpen.get q == 0

/-- The report of a completed check (R21). -/
def checkReport (p : Plan) (d : Derived) : Option CheckFailure → Report
  | some f => .failed f
  | none => .passed ⟨unreachable p d .p0, unreachable p d .p1, unreachable p d .p2, unreachable p d .p3⟩ (p.regionCount == 0)

/-- A plan at the completion of its check (R21). -/
def checkedPlan (d : Derived) (f : Option CheckFailure) (p : Plan) : Plan :=
  { p with state := if f = none then .ready else .edit, derived := d, report := checkReport p d f }

/-- The completion of the check in progress, when the last gate tick made it due (R21). -/
def completeCheck (s : State) : State :=
  match s.check with
  | some ⟨n, .finish f, d, true⟩ => raise .checkDone (mapPlan n (checkedPlan d f) { s with check := none })
  | _ => s

/-- CHECK_COMPLETION (R21). -/
def execCheckCompletion (s : State) : Host.Outcome State Fault Refusal := onEvent completeCheck s

/-- CHECK PLAN (R18). -/
def takeCheckPlan (plan : Byte) (s : State) : State × Reply :=
  match planOf plan with
  | none => refuse .badArg s
  | some n =>
    if s.check.isSome then refuse .busy s
    else if (s.plans.get n).state = .active then refuse .planActive s
    else if s.sched.pendingSwap = some n then refuse .wrongState s
    else
      let run : CheckRun := ⟨n, firstPoint (s.plans.get n), Derived.zero, false⟩
      (mapPlan n (fun p => { p with state := .checking, report := .none }) { s with check := some run }, replyOnly .accepted)

/-- READ PLAN ITEM (R187). -/
def takeReadPlanItem (plan item index : Byte) (s : State) : State × Reply :=
  match planOf plan with
  | none => refuse .badArg s
  | some n =>
    match planItem s n item index with
    | none => refuse .badArg s
    | some data => (s, ⟨.done, data⟩)

/-! ### The commands as steps of the link -/

/-- WRITE WINDOW as a step of the link. -/
def execWriteWindow (plan index : Byte) (length : BitVec 16) (openSet drain : Byte) (s : State) : Host.Outcome State Fault Refusal :=
  commandStep (.writeWindow plan index length openSet drain) (takeWriteWindow plan index length openSet drain) s

/-- SET WINDOW COUNT as a step of the link. -/
def execSetWindowCount (plan count : Byte) (s : State) : Host.Outcome State Fault Refusal :=
  commandStep (.setWindowCount plan count) (takeSetWindowCount plan count) s

/-- WRITE REGION as a step of the link. -/
def execWriteRegion (plan index : Byte) (base : Addr) (size : BitVec 40) (rights posting : Byte) (s : State) : Host.Outcome State Fault Refusal :=
  commandStep (.writeRegion plan index base size rights posting) (takeWriteRegion plan index base size rights posting) s

/-- SET REGION COUNT as a step of the link. -/
def execSetRegionCount (plan count : Byte) (s : State) : Host.Outcome State Fault Refusal :=
  commandStep (.setRegionCount plan count) (takeSetRegionCount plan count) s

/-- WRITE PORT SETTINGS as a step of the link. -/
def execWritePortSettings (plan port : Byte) (holdLimit : BitVec 16) (quota : Byte) (s : State) : Host.Outcome State Fault Refusal :=
  commandStep (.writePortSettings plan port holdLimit quota) (takeWritePortSettings plan port holdLimit quota) s

/-- WRITE COSTS as a step of the link. -/
def execWriteCosts (plan overhead beatCost : Byte) (s : State) : Host.Outcome State Fault Refusal :=
  commandStep (.writeCosts plan overhead beatCost) (takeWriteCosts plan overhead beatCost) s

/-- READ PLAN ITEM as a step of the link. -/
def execReadPlanItem (plan item index : Byte) (s : State) : Host.Outcome State Fault Refusal :=
  commandStep (.readPlanItem plan item index) (takeReadPlanItem plan item index) s

/-- COPY PLAN as a step of the link. -/
def execCopyPlan (s : State) : Host.Outcome State Fault Refusal := commandStep .copyPlan takeCopyPlan s

/-- CHECK PLAN as a step of the link. -/
def execCheckPlan (plan : Byte) (s : State) : Host.Outcome State Fault Refusal :=
  commandStep (.checkPlan plan) (takeCheckPlan plan) s

end Sys2Proof.Machine
end

