-- ==== Sys2Proof/Machine/RegionCheck.lean ====
section
/-! DEFINITION. The region checker: the region check and the TOOLONG check (Chapter 4). It holds no state. -/

namespace Sys2Proof.Machine

/-- A verdict of the region checker (R68). -/
inductive Verdict where
  | pass (region : Nat) (posting : Bool)
  | denied (reason : FaultReason)
  | tooLong (reason : FaultReason)
deriving DecidableEq, Repr

/-- The region contains the byte at an address (R69). -/
def regionContains (r : Region) (a : Addr) : Bool :=
  r.base.toNat ≤ a.toNat && a.toNat < r.base.toNat + r.size

/-- The counted region of lowest index that contains the byte, with its index (R69). -/
def decidingRegion (plan : Plan) (a : Addr) : Option (Region × Nat) :=
  (countedRegions plan).zipIdx.find? (fun r => regionContains r.1 a)

/-- The last byte of the span lies inside the region (R70). -/
def spanInside (r : Region) (a : Addr) (beats : Nat) : Bool :=
  a.toNat + spanBytes beats ≤ r.base.toNat + r.size

/-- The right covers the kind (Table 4-1). -/
def rightCovers : Rights → Kind → Bool
  | .none, _ => false
  | .read, .read => true
  | .read, .write => false
  | .readWrite, _ => true

/-- The region check: a deciding region exists, holds the whole span and grants the kind (R69 to R71). -/
def regionCheck (plan : Plan) (p : Port) (kind : Kind) (a : Addr) (beats : Nat) : Verdict :=
  match decidingRegion plan a with
  | none => .denied .noRegion
  | some (r, i) =>
    if !spanInside r a beats then .denied .spans
    else if !rightCovers (r.rights.get p) kind then .denied .rights
    else .pass i r.posting

/-- The verdict on a request under a plan: the region check, then the TOOLONG check (R72, R73). -/
def verdict (plan : Plan) (p : Port) (kind : Kind) (a : Addr) (beats : Nat) : Verdict :=
  match regionCheck plan p kind a beats with
  | .pass i posting =>
    let longest := plan.derived.longestOpen.get p
    if planCost plan beats ≤ longest then .pass i posting
    else if longest = 0 then .tooLong .noWindow
    else .tooLong .tooLong
  | v => v

end Sys2Proof.Machine
end

