-- ==== Sys2Proof/Machine/HoldQueue.lean ====
section
/-! DEFINITION. The hold queues: joining, deadlines, plan entry and head eligibility (Chapter 5). -/

namespace Sys2Proof.Machine

/-- The ports in walk order. -/
def allPorts : List Port := [.p0, .p1, .p2, .p3]

/-- The deadline a hold limit gives: none for the limit 0 (R4, R82, R88). -/
def deadlineOf (holdLimit : Nat) : Option Nat := if holdLimit = 0 then none else some holdLimit

/-- The record a request takes when it joins: cost and deadline in RUNNING and HALTING alone (R82). -/
def heldRecord (s : State) (p : Port) (r : Request) : Held where
  tag := r.tag
  kind := r.kind
  addr := r.addr
  beats := r.beats
  data := r.data
  cost := if walking s then some (planCost (governing s) r.beats) else none
  deadline := if walking s then deadlineOf ((governing s).settings.get p).holdLimit else none

/-- A request joins the tail of its port's queue and its tag becomes outstanding, in one event (R58, R82). -/
def joinQueue (p : Port) (r : Request) (s : State) : State :=
  mapPort p (fun u => { u with queue := u.queue ++ [heldRecord s p r], tags := u.tags ++ [r.tag] }) s

/-! ### Deadlines -/

/-- A gate tick lowers a deadline by 1 (R84). -/
def tickDeadline (h : Held) : Held := { h with deadline := h.deadline.map (· - 1) }

/-- Every held request with a deadline has it lowered by 1 (R84). -/
def tickDeadlines (s : State) : State :=
  { s with ports := ⟨tickUnit s.ports.p0, tickUnit s.ports.p1, tickUnit s.ports.p2, tickUnit s.ports.p3⟩ }
where
  /-- One port's queue. -/
  tickUnit (u : PortUnit) : PortUnit := { u with queue := u.queue.map tickDeadline }

/-- The request's deadline has reached 0 and its LATE answer is due (R84). -/
def expired (h : Held) : Bool := h.deadline == some 0

/-- The hold-limit expiry of the first expired request of a port, at whatever position it stands: removed, answered
LATE, and handed as a LATE fault (R84). Nothing when no request of the port has expired. -/
def expireOne (p : Port) (s : State) : State :=
  match (s.ports.get p).queue.find? expired with
  | none => s
  | some h =>
    let t := mapPort p (fun u => { u with queue := u.queue.eraseP expired }) s
    handFault p (faultNow s .late h.tag h.kind h.addr h.beats) (answer p h.tag .late none t)

/-- Every expired request of a port, in queue order (R84). -/
def expireQueue (p : Port) (s : State) : State :=
  (s.ports.get p).queue.foldl (fun t _ => expireOne p t) s

/-- Every expired request of every port (R84). -/
def expireAll (s : State) : State := allPorts.foldl (fun t p => expireQueue p t) s

/-! ### Plan entry -/

/-- The record of a request that passes plan entry: recosted, and given a deadline if it has none and the new plan sets
a hold limit (R88 steps 3 and 4). -/
def recost (plan : Plan) (p : Port) (h : Held) : Held :=
  { h with
    cost := some (planCost plan h.beats)
    deadline := match h.deadline with
      | some d => some d
      | none => deadlineOf (plan.settings.get p).holdLimit }

/-- A held request refused at plan entry: answered, its tag freed, and the fault handed on (R88 step 2). -/
def rejectHeld (p : Port) (status : Status) (reason : FaultReason) (h : Held) (s : State) : State :=
  handFault p (faultNow s reason h.tag h.kind h.addr h.beats) (answer p h.tag status none s)

/-- Plan entry of one request, which is put back at the tail of the walked queue if it passes (R88). -/
def enterHeld (p : Port) (s : State) (h : Held) : State :=
  let plan := governing s
  match verdict plan p h.kind h.addr h.beats with
  | .pass _ _ => mapPort p (fun u => { u with queue := u.queue ++ [recost plan p h] }) s
  | .denied reason => rejectHeld p .denied reason h s
  | .tooLong reason => rejectHeld p .tooLong reason h s

/-- Plan entry of one port's queue, walked from head to tail (R88). -/
def enterQueue (p : Port) (s : State) : State :=
  (s.ports.get p).queue.foldl (enterHeld p) (mapPort p (fun u => { u with queue := [] }) s)

/-- Plan entry: every held request of every port under the plan now ACTIVE (R77, R88). -/
def planEntry (s : State) : State := allPorts.foldl (fun t p => enterQueue p t) s

/-! ### Head eligibility -/

/-- A posted entry of the port overlaps the held request, whatever its state or posting plan (R93). -/
def selfOverlap (s : State) (p : Port) (h : Held) : Bool :=
  s.posted.any (fun e => e.port == p && spansOverlap e.addr e.beats h.addr h.beats)

/-- The issue list has room (R91 (d), R111 (d), R124 (b)). -/
def issueRoom (s : State) : Bool := s.mem.issueList.length < Config.issueDepth

/-- The cost a head is compared with. Every request held in RUNNING and HALTING carries one (R82, R88). -/
def headCost (s : State) (h : Held) : Nat := h.cost.getD (planCost (governing s) h.beats)

/-- The head of a port's queue is eligible (R91, R94). -/
def headEligible (s : State) (p : Port) : Bool :=
  match (s.ports.get p).queue with
  | [] => false
  | h :: _ =>
    match s.sched.gate with
    | .running | .halting =>
      openTo (currentWindow s) p && headCost s h ≤ ticksRemaining s && !selfOverlap s p h && issueRoom s
    | .stopped | .armed => p == .p0 && !selfOverlap s p h && issueRoom s
    | .faulted => false

/-! ### Clearing -/

/-- The clearing at an entry to STOPPED: CLOSED to P1, P2 and P3, and to P0 when boot pass is off (R97). -/
def clearOnStop (s : State) : State :=
  let t := clearQueue .closed .p3 (clearQueue .closed .p2 (clearQueue .closed .p1 s))
  if s.device.bootPass then t else clearQueue .closed .p0 t

/-- The clearing at an entry to FAULTED: MEMFAULT to every held request of every port (R99). -/
def clearOnFault (s : State) : State := allPorts.foldl (fun t p => clearQueue .memFault p t) s

/-- HOLD_LIMIT_EXPIRY: the first request of the port whose deadline reached 0 (R84). -/
def execHoldLimitExpiry (p : Port) (s : State) : Host.Outcome State Fault Refusal := onEvent (expireOne p) s

end Sys2Proof.Machine
end

