-- ==== Sys2Proof/Machine/Posted.lean ====
section
/-! DEFINITION. The posted-write buffer: the posting decision, the retire candidate, freeing and loss (Chapter 6). -/

namespace Sys2Proof.Machine

/-! ### Posting -/

/-- The posting decision on a WRITE that has passed the checks, with the deciding region's posting flag (R107). -/
def mayPost (s : State) (p : Port) (r : Request) (posting : Bool) : Bool :=
  let plan := governing s
  posting && (s.ports.get p).queue.isEmpty && !openTo (currentWindow s) p
    && postedCount s p < (plan.settings.get p).quota && s.posted.length < Config.postedDepth
    && planCost plan r.beats ≤ plan.derived.longestRetire.get p

/-- A write is posted: an entry at the tail of the buffer, and OKAY with posted=yes at once; its tag does not become
outstanding (R108). -/
def postWrite (p : Port) (r : Request) (s : State) : State :=
  let e : PostedEntry := ⟨p, r.tag, r.addr, r.beats, r.data, activePlan s, .waiting⟩
  give p ⟨r.tag, .okay, true, none⟩ { s with posted := s.posted ++ [e] }

/-- Every entry whose posting plan is the plan that leaves ACTIVE takes the posting plan NONE (R110). -/
def carryEntries (old : PlanName) (entries : List PostedEntry) : List PostedEntry :=
  entries.map (fun e => if e.plan = some old then { e with plan := none } else e)

/-! ### The retire candidate -/

/-- The entry is WAITING. -/
def isWaiting (e : PostedEntry) : Bool := e.state == .waiting

/-- The entry is carried: its posting plan is not the active plan (R104). -/
def isCarried (s : State) (e : PostedEntry) : Bool :=
  match e.plan with
  | none => true
  | some n => activePlan s != some n

/-- Condition (c) of R111: the entry is eligible in the current gate state and window (R112, R113). -/
def retireEligible (s : State) (e : PostedEntry) : Bool :=
  match s.sched.gate with
  | .stopped | .armed => true
  | .running | .halting =>
    let w := currentWindow s
    if isCarried s e then !quietWindow w
    else (openTo w e.port || w.drain) && planCost (governing s) e.beats ≤ ticksRemaining s
  | .faulted => false

/-- An older entry of the same port is WAITING (R111 (b)). -/
def olderWaiting (older : List PostedEntry) (e : PostedEntry) : Bool :=
  older.any (fun o => o.port == e.port && isWaiting o)

/-- The oldest entry, with its place in the buffer, that is WAITING, has no older WAITING entry of its port and is
eligible (R111 (a) to (c)). -/
def retireScan (s : State) : Option (PostedEntry × Nat) :=
  s.posted.zipIdx.find? (fun x =>
    isWaiting x.1 && !olderWaiting (s.posted.take x.2) x.1 && retireEligible s x.1)

/-- The retire candidate, if there is one (R111). -/
def retireCandidate (s : State) : Option (PostedEntry × Nat) := if issueRoom s then retireScan s else none

/-! ### Freeing and loss -/

/-- A posted entry freed as lost: POSTED_LOST and a fault on its port, with the entry's own fields (R117, R118). -/
def loseEntry (reason : FaultReason) (s : State) (e : PostedEntry) : State :=
  handFault e.port (faultNow s reason e.tag .write e.addr e.beats) (raise .postedLost s)

/-- The posted entry of a POSTED issue-list entry, by its issue tag. -/
def inFlightAs (t : IssueTag) (e : PostedEntry) : Bool := e.state == .inFlight t

/-- The completion of a POSTED issue-list entry: freed on OK, freed as lost on ERROR (R116, R117, R133). -/
def completePosted (t : IssueTag) (ok : Bool) (s : State) : State :=
  match s.posted.find? (inFlightAs t) with
  | none => s
  | some e =>
    let freed := { s with posted := s.posted.eraseP (inFlightAs t) }
    if ok then freed else loseEntry .postedFailed freed e

/-- At a memory failure every IN_FLIGHT entry is freed as lost, oldest first, and every WAITING entry is kept (R118). -/
def abandonPosted (s : State) : State :=
  let lost := s.posted.filter (fun e => !isWaiting e)
  lost.foldl (loseEntry .postedAbandoned) { s with posted := s.posted.filter isWaiting }

/-- The number of IN_FLIGHT entries, which is the lost count of a failure (R118 step 2). -/
def inFlightCount (s : State) : Nat := (s.posted.filter (fun e => !isWaiting e)).length

end Sys2Proof.Machine
end

