-- ==== Sys2Proof/Machine/Schedule.lean ====
section
/-! DEFINITION. The schedule controller: entries to the gate states, the frame boundary, the window walk, and the
commands START, HALT, HALT NOW, REQUEST SWAP and WITHDRAW SWAP (Chapter 2, R23). -/

namespace Sys2Proof.Machine

/-! ### Entries to the gate states -/

/-- The gate's own part of an entry to STOPPED: pending halt and START mode cleared, OPEN and FRAME low, and no share
of a tick left to the walk (R32, R42, R44). -/
def stopSchedule (c : Schedule) : Schedule :=
  { c with gate := .stopped, pendingHalt := false, startOnSync := false, openLines := 0, frameLine := false, walkOwed := false }

/-- Entry to STOPPED from another state (R42). -/
def enterStopped (s : State) : State :=
  clearOnStop (raise .gateStopped { s with sched := stopSchedule s.sched })

/-- The gate's own part of an entry to FAULTED: the swap is withdrawn, the halt and the arming cleared, OPEN and FRAME
low; position and frame number stay (R40). -/
def faultSchedule (c : Schedule) : Schedule :=
  { c with gate := .faulted, pendingSwap := none, pendingHalt := false, startOnSync := false, openLines := 0,
           frameLine := false, walkOwed := false }

/-- Entry to FAULTED (R40). -/
def enterFaulted (s : State) : State := clearOnFault { s with sched := faultSchedule s.sched }

/-- The OPEN lines take the open set of window 0 of the active plan, FRAME is pulsed and FRAME_START is raised (R30
step 4, R35). -/
def beginFrame (s : State) : State :=
  raise .frameStart
    { s with sched := { s.sched with openLines := (windowAt (governing s) 0).openSet, frameLine := true } }

/-- Entry to RUNNING: frame 0, window 0, offset 0, the lines, FRAME_START, and plan entry (R35). -/
def enterRunning (s : State) : State :=
  planEntry (beginFrame
    { s with sched := { s.sched with gate := .running, startOnSync := false, frame := 0, window := 0, offset := 0, walkOwed := false } })

/-! ### Activation and the frame boundary -/

/-- A plan's state replaced. -/
def setPlanState (n : PlanName) (st : PlanState) (s : State) : State := mapPlan n (fun p => { p with state := st }) s

/-- A plan becomes ACTIVE: the plan that was ACTIVE becomes READY and its posted entries become carried (R23, R30 step
2, R110). -/
def activate (n : PlanName) (s : State) : State :=
  let old := n.other
  if (s.plans.get old).state = .active then
    setPlanState n .active (setPlanState old .ready { s with posted := carryEntries old s.posted })
  else setPlanState n .active s

/-- Step 2 of a frame boundary: the pending swap is made, with plan entry and SWAP_DONE (R30). -/
def makeSwap (s : State) : State :=
  match s.sched.pendingSwap with
  | none => s
  | some n => raise .swapDone (planEntry (activate n { s with sched := { s.sched with pendingSwap := none } }))

/-- Step 1 of a frame boundary: the frame number grows, the walk goes to window 0, offset 0 (R30). -/
def nextFrame (s : State) : State :=
  { s with sched := { s.sched with frame := s.sched.frame + 1, window := 0, offset := 0 } }

/-- A frame boundary (R30): frame number and position, then the swap, then the stop or the new frame. -/
def frameBoundary (s : State) : State :=
  let t := makeSwap (nextFrame s)
  if t.sched.pendingHalt then enterStopped t else beginFrame t

/-! ### The window walk -/

/-- The next gate tick expires the current window: the offset would equal its length (R29). -/
def expiryDue (s : State) : Bool := walking s && s.sched.offset + 1 == (currentWindow s).length

/-- The expiry of the current window: the next window with its OPEN lines, or a frame boundary after the last (R29). -/
def expireWindow (s : State) : State :=
  if s.sched.window + 1 < (governing s).windowCount then
    { s with sched := { s.sched with
        window := s.sched.window + 1
        offset := 0
        openLines := (windowAt (governing s) (s.sched.window + 1)).openSet } }
  else frameBoundary s

/-- The walk's share of a gate tick: a FRAME pulse ends, and in RUNNING and HALTING the offset grows by 1, with the
expiry if it then equals the window's length (R29, R44). -/
def takeWalkTick (s : State) : State :=
  let t := { s with sched := { s.sched with frameLine := false, walkOwed := false } }
  if !walking t then t
  else if expiryDue t then expireWindow t
  else { t with sched := { t.sched with offset := t.sched.offset + 1 } }

/-- The share of the last tick still owed to the walk, if any, is taken (R29). -/
def takeOwedWalk (s : State) : State := if s.sched.walkOwed then takeWalkTick s else s

/-- A late rewind: window 0 at offset 0 with its OPEN lines; no boundary (R46). -/
def rewind (s : State) : State :=
  { s with sched := { s.sched with window := 0, offset := 0, openLines := (windowAt (governing s) 0).openSet } }

/-- WINDOW_EXPIRY: the share of the last gate tick in which the window expires (R29). -/
def execWindowExpiry (s : State) : Host.Outcome State Fault Refusal := onEvent takeOwedWalk s

/-! ### Commands -/

/-- START (R33). -/
def takeStart (mode : Byte) (s : State) : State × Reply :=
  if mode ≠ 0x00 ∧ mode ≠ 0x01 then refuse .badArg s
  else if s.sched.gate ≠ .stopped then refuse .wrongState s
  else if activePlan s = none then refuse .notReady s
  else if mode = 0x00 then (enterRunning s, replyOnly .done)
  else if s.sync.mode = .off then refuse .badArg s
  else ({ s with sched := { s.sched with gate := .armed, startOnSync := true } }, replyOnly .accepted)

/-- HALT (R36). -/
def takeHalt (s : State) : State × Reply :=
  match s.sched.gate with
  | .running => ({ s with sched := { s.sched with gate := .halting, pendingHalt := true } }, replyOnly .accepted)
  | .halting => (s, replyOnly .done)
  | .armed => (enterStopped s, replyOnly .done)
  | .stopped | .faulted => refuse .wrongState s

/-- A pending swap is withdrawn; its target stays READY (R24, R39). -/
def withdrawPending (s : State) : State := { s with sched := { s.sched with pendingSwap := none } }

/-- HALT NOW (R37). -/
def takeHaltNow (s : State) : State × Reply :=
  match s.sched.gate with
  | .running | .halting | .armed => (enterStopped (withdrawPending s), replyOnly .done)
  | .stopped | .faulted => refuse .wrongState s

/-- REQUEST SWAP in STOPPED: activation at once, without plan entry (R23). -/
def swapStopped (n : PlanName) (s : State) : State × Reply :=
  if (s.plans.get n).state = .ready then (raise .swapDone (activate n s), replyOnly .done) else refuse .notReady s

/-- REQUEST SWAP in RUNNING: the plan becomes the pending swap target (R38). -/
def swapRunning (n : PlanName) (s : State) : State × Reply :=
  if (s.plans.get n).state = .active then refuse .planActive s
  else if (s.plans.get n).state ≠ .ready then refuse .notReady s
  else if s.sched.pendingSwap.isSome then refuse .busy s
  else ({ s with sched := { s.sched with pendingSwap := some n } }, replyOnly .accepted)

/-- REQUEST SWAP (R23, R38). -/
def takeRequestSwap (plan : Byte) (s : State) : State × Reply :=
  match planOf plan with
  | none => refuse .badArg s
  | some n =>
    match s.sched.gate with
    | .stopped => swapStopped n s
    | .running => swapRunning n s
    | .armed | .halting | .faulted => refuse .wrongState s

/-- WITHDRAW SWAP (R39). -/
def takeWithdrawSwap (s : State) : State × Reply := (withdrawPending s, replyOnly .done)

/-- START as a step of the link. -/
def execStart (mode : Byte) (s : State) : Host.Outcome State Fault Refusal :=
  commandStep (.start mode) (takeStart mode) s

/-- HALT as a step of the link. -/
def execHalt (s : State) : Host.Outcome State Fault Refusal := commandStep .halt takeHalt s

/-- HALT NOW as a step of the link. -/
def execHaltNow (s : State) : Host.Outcome State Fault Refusal := commandStep .haltNow takeHaltNow s

/-- REQUEST SWAP as a step of the link. -/
def execRequestSwap (plan : Byte) (s : State) : Host.Outcome State Fault Refusal :=
  commandStep (.requestSwap plan) (takeRequestSwap plan) s

/-- WITHDRAW SWAP as a step of the link. -/
def execWithdrawSwap (s : State) : Host.Outcome State Fault Refusal := commandStep .withdrawSwap takeWithdrawSwap s

end Sys2Proof.Machine
end

