-- ==== Sys2Proof/Machine/MemoryPort.lean ====
section
/-! DEFINITION. The memory port: completion of issues, memory failure, and recovery (Chapters 7 and 8). -/

namespace Sys2Proof.Machine

/-- A port request's issue-list entry that is still owed a response: its source is PORT and its orphan flag clear. -/
def owedTo (e : IssueEntry) : Option (Port × Tag) :=
  match e.source with
  | .port p t => if e.orphan then none else some (p, t)
  | .posted => none

/-! ### Failure -/

/-- An issued request answered MEMFAULT at a failure, with a MEM_ABANDONED fault (R143 step 3). An orphan is dropped, and a
POSTED entry was dealt with by the posted-write buffer. -/
def abandonIssue (s : State) (e : IssueEntry) : State :=
  match owedTo e with
  | none => s
  | some (p, t) => handFault p (faultNow s .memAbandoned t e.kind e.addr e.beats) (answer p t .memFault none s)

/-- The number of issue-list entries answered at a failure (R143 step 3). -/
def answeredCount (s : State) : Nat := (s.mem.issueList.filter (fun e => (owedTo e).isSome)).length

/-- The recovery report a failure writes (R144). -/
def failureReport (why : FailureKind) (s : State) : RecoveryReport where
  reason := some why
  frame := if walking s then some s.sched.frame else none
  lost := inFlightCount s
  answered := answeredCount s
  outcome := .none

/-- The last-command code of RESET GATE (Table 11-2). -/
def resetGateCode : Byte := 0x26

/-- RESET GATE in progress is abandoned (R191). -/
def abandonReset (s : State) : State :=
  if s.link.resetting then
    setLastResult .wrongState resetGateCode { s with link := { s.link with resetting := false, resetDue := false } }
  else s

/-- A memory failure: the seven steps of R143, and the abandonment of RESET GATE (R191). -/
def memoryFailure (why : FailureKind) (s : State) : State :=
  let report := failureReport why s
  let s2 := abandonPosted { s with mem := { s.mem with state := .failed } }
  let s3 := s.mem.issueList.foldl abandonIssue s2
  let s5 := { s3 with mem := { s3.mem with issueList := [], report := report } }
  abandonReset (enterFaulted (raise .memoryFailed s5))

/-- The age of the oldest issue-list entry is at or above a memory response limit of 1 or more (R141). -/
def overdue (s : State) : Bool :=
  s.mem.state = .ready && 1 ≤ s.device.limit &&
    (match s.mem.issueList with
     | [] => false
     | e :: _ => s.device.limit ≤ e.age)

/-- The TIMEOUT test (R141). -/
def timeoutTest (s : State) : State := if overdue s then memoryFailure .timeout s else s

/-- TIMEOUT: the failure the last gate tick made due (R141). -/
def execTimeout (s : State) : Host.Outcome State Fault Refusal := onEvent timeoutTest s

/-- A gate tick ages every issue-list entry, up to 65535 (R128). -/
def tickAges (s : State) : State :=
  { s with mem := { s.mem with issueList := s.mem.issueList.map (fun e => { e with age := min (e.age + 1) Config.maxAge }) } }

/-! ### Completion -/

/-- The status a response completes its entry with: OK with fewer beats than a READ carries is an ERROR (R131). -/
def completesOk (e : IssueEntry) (m : MemResponse) : Bool :=
  m.ok && !(e.kind = .read && m.data.length < e.beats)

/-- The data of an OKAY response: for a READ the beats of the entry, beats beyond dropped; for a WRITE none (R131, R132). -/
def completionData (e : IssueEntry) (m : MemResponse) : Option (List BeatData) :=
  match e.kind with
  | .read => some (m.data.take e.beats)
  | .write => none

/-- The completion of a PORT entry: OKAY, or MEMFAULT with a MEM_ERROR fault; an orphan is consumed (R132, R134). -/
def completePort (p : Port) (t : Tag) (e : IssueEntry) (m : MemResponse) (s : State) : State :=
  if e.orphan then s
  else if completesOk e m then answer p t .okay (completionData e m) s
  else handFault p (faultNow s .memError t e.kind e.addr e.beats) (answer p t .memFault none s)

/-- The completion of the oldest entry, handed on by its source (R131 to R134). -/
def completeEntry (e : IssueEntry) (m : MemResponse) (s : State) : State :=
  match e.source with
  | .port p t => completePort p t e m s
  | .posted => completePosted e.issueTag (completesOk e m) s

/-- A memory response: in READY it completes the oldest entry if its issue tag matches, after which the next entry is
tested for TIMEOUT, and is an ORDER failure otherwise; in FAILED and RESETTING it is ignored (R131, R141, R142, R145). -/
def takeResponse (m : MemResponse) (s : State) : State :=
  match s.mem.state with
  | .failed | .resetting => s
  | .ready =>
    match s.mem.issueList with
    | [] => memoryFailure .order s
    | e :: rest =>
      if m.tag = e.issueTag then
        timeoutTest (completeEntry e m { s with mem := { s.mem with issueList := rest } })
      else memoryFailure .order s

/-- MEMORY_RESPONSE (R131). -/
def execMemoryResponse (m : MemResponse) (s : State) : Host.Outcome State Fault Refusal := onEvent (takeResponse m) s

/-! ### Recovery -/

/-- RECOVER (R148). -/
def takeRecover (s : State) : State × Reply :=
  if s.mem.state = .resetting then refuse .busy s
  else if s.sched.gate ≠ .faulted then refuse .wrongState s
  else
    ({ s with mem := { s.mem with
        state := .resetting
        memrst := true
        recovery := .pulse s.device.pulse
        report := { s.mem.report with outcome := .inProgress } } }, replyOnly .accepted)

/-- RECOVER as a step of the link. -/
def execRecover (s : State) : Host.Outcome State Fault Refusal := commandStep .recover takeRecover s

/-- A recovery's end, with its outcome and RECOVERY_DONE (R150, R151). -/
def endRecovery (state : MemState) (outcome : RecoveryOutcome) (s : State) : State :=
  raise .recoveryDone
    { s with mem := { s.mem with state := state, recovery := .idle, report := { s.mem.report with outcome := outcome } } }

/-- The recovery succeeds: READY, RECOVERY_DONE, and the gate enters STOPPED (R150, R41). -/
def recoverySucceeds (s : State) : State := enterStopped (endRecovery .ready .succeeded s)

/-- The limit of the ready wait (R150). -/
def readyWaitLimit (s : State) : Nat := if s.device.limit = 0 then Config.unlimitedReadyWait else s.device.limit

/-- The end of the recovery pulse that the last gate tick made due: MEMRST is released, and the ready wait begins, or
succeeds at once if MEMRDY is asserted (R149, R150). -/
def endPulse (s : State) : State :=
  if s.mem.recovery = .pulse 0 then
    let t := { s with mem := { s.mem with memrst := false, recovery := .wait (readyWaitLimit s) } }
    if s.mem.memrdy then recoverySucceeds t else t
  else s

/-- The expiry of the ready wait that the last gate tick made due: FAILED again (R151). -/
def expireReadyWait (s : State) : State :=
  if s.mem.recovery = .wait 0 then endRecovery .failed .failed s else s

/-- The level of MEMRDY as a command gives it. -/
def setMemrdy (level : Bool) (s : State) : State := { s with mem := { s.mem with memrdy := level } }

/-- MEMRDY becomes asserted: in the ready wait the recovery succeeds; at other times it has no effect (R140, R150). -/
def memrdyRises (s : State) : State :=
  match s.mem.recovery with
  | .wait _ => recoverySucceeds s
  | .idle | .pulse _ => s

/-- A recovery's share of a gate tick: the pulse or the ready wait has one tick less left (R149, R151). -/
def tickRecovery (r : Recovery) : Recovery :=
  match r with
  | .idle => .idle
  | .pulse n => .pulse (n - 1)
  | .wait n => .wait (n - 1)

/-- RECOVERY_PULSE_END (R149), with the level of MEMRDY that the memory port finds at the release (log entry 11). DESIGN
CHOICE (log entry 4): one that is not due has no effect, on the kept level of MEMRDY either; the manual has no such event. -/
def execRecoveryPulseEnd (memrdy : Bool) (s : State) : Host.Outcome State Fault Refusal :=
  onEvent (fun t => if t.mem.recovery = .pulse 0 then endPulse (setMemrdy memrdy t) else t) s

/-- MEMRDY_ASSERTED (R150). The level is a pin's, so it is kept through a reset. -/
def execMemrdyAsserted (s : State) : Host.Outcome State Fault Refusal := onEvent memrdyRises (setMemrdy true s)

/-- READY_WAIT_EXPIRY (R151). -/
def execReadyWaitExpiry (s : State) : Host.Outcome State Fault Refusal := onEvent expireReadyWait s

end Sys2Proof.Machine
end

