-- ==== Sys2Proof/Machine/PortUnit.lean ====
section
/-! DEFINITION. The port units: readiness, the acceptance sequence, and link reset (Chapter 3). -/

namespace Sys2Proof.Machine

/-- The gate state admits the port (Table 3-4). -/
def admitted (s : State) (p : Port) : Bool :=
  match s.sched.gate with
  | .stopped | .armed => p == .p0 && s.device.bootPass
  | .running | .halting | .faulted => true

/-- The port is ready (R52). While the part is in reset it takes no request (log entry 3). -/
def portReady (s : State) (p : Port) : Bool :=
  !s.inReset && !(s.ports.get p).linkReset && (s.ports.get p).queue.length < Config.holdDepth
    && admitted s p && !s.link.resetting

/-- The span crosses a 4 KiB boundary (R56). -/
def crossesPage (a : Addr) (beats : Nat) : Bool :=
  Config.pageBytes < a.toNat % Config.pageBytes + spanBytes beats

/-- The first bus rule the request breaks, in the order of R56. -/
def protocolFault (s : State) (p : Port) (r : Request) : Option FaultReason :=
  if r.addr.toNat % Config.beatBytes ≠ 0 then some .misaligned
  else if crossesPage r.addr r.beats then some .boundary
  else if (s.ports.get p).tags.contains r.tag then some .tagInUse
  else none

/-- A request answered at its arrival with a fault. Its tag is not recorded, and an outstanding request that holds the
same tag keeps it (R56, R75). -/
def rejectArrival (p : Port) (r : Request) (status : Status) (reason : FaultReason) (s : State) : State :=
  handFault p (faultNow s reason r.tag r.kind r.addr r.beats) (give p ⟨r.tag, status, false, none⟩ s)

/-- Steps 4 and 5 of the acceptance sequence, after a pass of the region checker: a WRITE may be posted; else the
request joins the hold queue (R57, R58, R72). -/
def placeChecked (p : Port) (r : Request) (posting : Bool) (s : State) : State :=
  if r.kind = .write ∧ mayPost s p r posting then postWrite p r s else joinQueue p r s

/-- Steps 3 to 5 of the acceptance sequence (R57, R58, R75, R76). -/
def acceptUnbroken (p : Port) (r : Request) (s : State) : State :=
  if walking s then
    match verdict (governing s) p r.kind r.addr r.beats with
    | .denied reason => rejectArrival p r .denied reason s
    | .tooLong reason => rejectArrival p r .tooLong reason s
    | .pass _ posting => placeChecked p r posting s
  else joinQueue p r s

/-- The acceptance sequence (Table 3-5). -/
def acceptRequest (p : Port) (r : Request) (s : State) : State :=
  if s.sched.gate = .faulted then give p ⟨r.tag, .memFault, false, none⟩ s
  else
    match protocolFault s p r with
    | some reason => rejectArrival p r .protocol reason s
    | none => acceptUnbroken p r s

/-- REQUEST_ARRIVAL: a request presented at a port is taken if the port is ready, and else stays with the master with no
effect (R51, R54). A transfer that is no request of the bus (R49) is not taken either (log entry 5). -/
def execRequestArrival (p : Port) (r : Request) (s : State) : Host.Outcome State Fault Refusal :=
  onEvent (fun t => if portReady t p && r.wellFormed then acceptRequest p r t else t) s

/-! ### Link reset -/

/-- The entry's source is a request of the port. -/
def fromPort (p : Port) (e : IssueEntry) : Bool :=
  match e.source with
  | .port q _ => q == p
  | .posted => false

/-- The level of a port's LRSTn: asserted when true. -/
def setLinkReset (p : Port) (level : Bool) (s : State) : State := mapPort p (fun u => { u with linkReset := level }) s

/-- Every issue-list entry of a port's requests marked orphan (R65 step 4, R134). -/
def orphanIssues (p : Port) (s : State) : State :=
  { s with mem := { s.mem with
      issueList := s.mem.issueList.map (fun e => if fromPort p e then { e with orphan := true } else e) } }

/-- The steps of a link reset (R65): queue and tags emptied without a response, issue-list entries orphan, PORT_RESET. -/
def resetPort (p : Port) (s : State) : State :=
  raise .portReset (orphanIssues p (mapPort p (fun u => { u with tags := [], queue := [] }) s))

/-- LINK_RESET: LRSTn of the port becomes asserted. While the part is in reset only the level follows (R65); an LRSTn
already asserted is no assertion. -/
def execLinkReset (p : Port) (s : State) : Host.Outcome State Fault Refusal :=
  if (s.ports.get p).linkReset then .next (quiet s) else onEvent (resetPort p) (setLinkReset p true s)

/-- LINK_RESET_RELEASE: LRSTn of the port is released; no other state changes (R67). -/
def execLinkResetRelease (p : Port) (s : State) : Host.Outcome State Fault Refusal :=
  .next (quiet (setLinkReset p false s))

end Sys2Proof.Machine
end

