-- ==== Sys2Proof/Machine/Arbiter.lean ====
section
/-! DEFINITION. The issue arbiter and the grant (Chapter 7, 7.1). -/

namespace Sys2Proof.Machine

/-- The contenders in the order the arbiter looks at them: after the last winner, which comes last (R123, R125). -/
def lookOrder : Contender → List Contender
  | .port .p0 => [.port .p1, .port .p2, .port .p3, .retire, .port .p0]
  | .port .p1 => [.port .p2, .port .p3, .retire, .port .p0, .port .p1]
  | .port .p2 => [.port .p3, .retire, .port .p0, .port .p1, .port .p2]
  | .port .p3 => [.retire, .port .p0, .port .p1, .port .p2, .port .p3]
  | .retire => [.port .p0, .port .p1, .port .p2, .port .p3, .retire]

/-- The contender is eligible (Table 7-1). -/
def eligible (s : State) : Contender → Bool
  | .port p => headEligible s p
  | .retire => (retireCandidate s).isSome

/-- The memory port can take an issue, with the ready indication of the memory's request channel (R124). -/
def canIssue (s : State) (memReady : Bool) : Bool := s.mem.state = .ready && issueRoom s && memReady

/-- The contender granted: the first eligible one after the last winner (R125). -/
def winner (s : State) : Option Contender := (lookOrder s.lastWinner).find? (eligible s)

/-- The issue tags in order. -/
def issueTags : List IssueTag := [0, 1, 2, 3, 4, 5, 6, 7, 8, 9, 10, 11, 12, 13, 14, 15]

/-- The lowest issue tag that no entry of the issue list holds (R126 step 1). -/
def freeTag (l : List IssueEntry) : Option IssueTag := issueTags.find? (fun t => l.all (fun e => e.issueTag != t))

/-- An access issued: an entry at the tail of the issue list, age 0 and not orphan, and the access presented to the
memory (R126 steps 3 and 4). -/
def issueAccess (t : IssueTag) (source : Source) (kind : Kind) (addr : Addr) (beats : Nat) (data : List Beat) (s : State) : State :=
  { s with
    mem := { s.mem with issueList := s.mem.issueList ++ [⟨t, source, kind, addr, beats, 0, false⟩] }
    out := { s.out with issues := s.out.issues ++ [⟨t, kind, addr, beats, data⟩] } }

/-- The grant of a port's head: it leaves its queue, keeps its tag outstanding, and is issued (R96, R126). -/
def grantPort (p : Port) (t : IssueTag) (s : State) : State :=
  match (s.ports.get p).queue with
  | [] => s
  | h :: rest =>
    issueAccess t (.port p h.tag) h.kind h.addr h.beats h.data
      { mapPort p (fun u => { u with queue := rest }) s with lastWinner := .port p }

/-- The grant of RETIRE: the candidate becomes IN_FLIGHT in its place and is issued with kind WRITE (R115, R126). -/
def grantRetire (t : IssueTag) (s : State) : State :=
  match retireCandidate s with
  | none => s
  | some (e, i) =>
    issueAccess t .posted .write e.addr e.beats e.data
      { s with posted := s.posted.set i { e with state := .inFlight t }, lastWinner := .retire }

/-- The grant of a contender. -/
def grantTo (c : Contender) (t : IssueTag) (s : State) : State :=
  match c with
  | .port p => grantPort p t s
  | .retire => grantRetire t s

/-- A grant decision: the winner is issued under the lowest free issue tag; nothing when the memory port can take no
issue or no contender is eligible (R124 to R126). -/
def decideGrant (memReady : Bool) (s : State) : State :=
  if canIssue s memReady then
    match winner s, freeTag s.mem.issueList with
    | some c, some t => grantTo c t s
    | _, _ => s
  else s

/-- GRANT (R125). -/
def execGrant (memReady : Bool) (s : State) : Host.Outcome State Fault Refusal := onEvent (decideGrant memReady) s

end Sys2Proof.Machine
end

