-- ==== Sys2Proof/Machine/Sync.lean ====
section
/-! DEFINITION. The sync unit: selected edges, their outcomes and corrections, SET SYNC and READ SYNC (Chapter 9, R186). -/

namespace Sys2Proof.Machine

/-- The sum of the lengths of a list of windows. -/
def totalLength (l : List Window) : Nat := (l.map (·.length)).sum

/-- The ticks since frame start T: the counted windows below the window index, plus the offset (R155). -/
def frameTicks (s : State) : Nat :=
  totalLength ((countedWindows (governing s)).take s.sched.window) + s.sched.offset

/-- The position fields of the capture record, as the walk stands at the edge (R155). -/
def capturePosition (s : State) : CapturePosition where
  frame := s.sched.frame
  window := s.sched.window
  offset := s.sched.offset
  ticks := frameTicks s
  length := (governing s).derived.frameLength

/-- The outcome of an edge in RUNNING or HALTING with mode ALIGN, from T, L and C (R157). -/
def alignOutcome (t l c : Nat) : SyncOutcome :=
  let early := l - t
  if t = 0 then .inStep
  else if early ≤ c ∧ early ≤ t then .earlyCut
  else if t ≤ c then .lateRewind
  else .outOfLimit

/-- The outcome of a selected edge (Table 9-1). -/
def edgeOutcome (s : State) : SyncOutcome :=
  match s.sched.gate with
  | .stopped | .faulted => .observed
  | .armed => .started
  | .running | .halting =>
    match s.sync.mode with
    | .align => alignOutcome (frameTicks s) (governing s).derived.frameLength s.sync.limit
    | .off | .observe => .observed

/-- The capture record a selected edge writes (R155, Table 9-1). -/
def captureOf (s : State) : Capture where
  valid := true
  outcome := edgeOutcome s
  position := if walking s then some (capturePosition s) else none

/-- What the outcome hands to the other blocks: a start, a cut, a rewind, or SYNC_LOST (R34, R45, R46, R157). -/
def actOnOutcome (o : SyncOutcome) (s : State) : State :=
  match o with
  | .started => enterRunning s
  | .earlyCut => frameBoundary s
  | .lateRewind => rewind s
  | .outOfLimit => raise .syncLost s
  | .none | .observed | .inStep => s

/-- A selected edge: the record is overwritten, SYNC_CAPTURED raised, and the outcome acted on (R156). -/
def selectedEdge (s : State) : State :=
  actOnOutcome (edgeOutcome s) (raise .syncCaptured { s with sync := { s.sync with capture := captureOf s } })

/-- A change of SYNC is a selected edge when it has the direction of the edge setting and the mode is not OFF (R153, R154). -/
def seenEdge (e : SyncEdge) (s : State) : State :=
  if s.sync.mode ≠ .off ∧ s.sync.edge = e then selectedEdge s else s

/-- The level of SYNC after a change. -/
def setSyncLevel (e : SyncEdge) (s : State) : State := { s with sync := { s.sync with level := e == .rising } }

/-- SYNC_EDGE (R156): SYNC changes in the named direction. The level is a pin's, so it follows in reset too, where no
edge is seen (R154; log entry 7). -/
def execSyncEdge (e : SyncEdge) (s : State) : Host.Outcome State Fault Refusal := onEvent (seenEdge e) (setSyncLevel e s)

/-! ### Commands -/

/-- SET SYNC (R186). -/
def takeSetSync (mode edge : Byte) (limit : BitVec 16) (s : State) : State × Reply :=
  match syncModeOf mode, syncEdgeOf edge with
  | some m, some e =>
    if Config.maxCorrection < limit.toNat then refuse .badArg s
    else if s.sched.gate ≠ .stopped then refuse .wrongState s
    else ({ s with sync := { s.sync with mode := m, edge := e, limit := limit.toNat } }, replyOnly .done)
  | _, _ => refuse .badArg s

/-- READ SYNC: the record as it stands; with take yes its valid flag becomes no (R161). -/
def takeReadSync (take : Byte) (s : State) : State × Reply :=
  match flagOf take with
  | none => refuse .badArg s
  | some taking =>
    let left := if taking then { s.sync.capture with valid := false } else s.sync.capture
    ({ s with sync := { s.sync with capture := left } }, ⟨.done, captureData s.sync.capture⟩)

/-- SET SYNC as a step of the link. -/
def execSetSync (mode edge : Byte) (limit : BitVec 16) (s : State) : Host.Outcome State Fault Refusal :=
  commandStep (.setSync mode edge limit) (takeSetSync mode edge limit) s

/-- READ SYNC as a step of the link. -/
def execReadSync (take : Byte) (s : State) : Host.Outcome State Fault Refusal :=
  commandStep (.readSync take) (takeReadSync take) s

end Sys2Proof.Machine
end

