-- ==== Sys2Proof/Machine/Reset.lean ====
section
/-! DEFINITION. The resets POR, RST and RESET GATE with its reset step, the release of reset, and SET DEVICE (Tables 0-5
and 1-2, R27, R28, R184, R185, R189, R190). -/

namespace Sys2Proof.Machine

/-! ### The reset pins -/

/-- A port unit after POR or RST: no tag, no request; the link-reset state follows the pin (R60, R65, R101). -/
def portAfterReset (u : PortUnit) : PortUnit := ⟨[], [], u.linkReset⟩

/-- Every block at its values after POR and RST, with the plans given; the levels of the input pins and the queue of
waiting commands stay (log entry 2). The part is in reset until the release. -/
def resetWith (plans : PerPlan Plan) (s : State) : State :=
  { State.reset with
    plans := plans
    ports := ⟨portAfterReset s.ports.p0, portAfterReset s.ports.p1, portAfterReset s.ports.p2, portAfterReset s.ports.p3⟩
    mem := { State.reset.mem with memrdy := s.mem.memrdy }
    sync := { State.reset.sync with level := s.sync.level }
    link := { State.reset.link with selected := s.link.selected }
    inReset := true
    pending := s.pending }

/-- A plan returned to EDIT with report NONE, its contents and derived values kept (R8). -/
def planAfterReset (p : Plan) : Plan := { p with state := .edit, report := .none }

/-- Both plans after RST or a soft reset (R8). -/
def plansAfterReset (plans : PerPlan Plan) : PerPlan Plan := ⟨planAfterReset plans.a, planAfterReset plans.b⟩

/-- POR: power-on (R8 and the reset tables of every chapter). -/
def execPor (s : State) : Host.Outcome State Fault Refusal := .next (resetWith State.reset.plans s)

/-- RST: assertion of RSTn (R8, R28). -/
def execRst (s : State) : Host.Outcome State Fault Refusal := .next (resetWith (plansAfterReset s.plans) s)

/-- RESET_RELEASE: the part comes out of reset, and the first gate tick comes one divider period later (R26). -/
def execResetRelease (s : State) : Host.Outcome State Fault Refusal :=
  .next (quiet (if s.inReset then { s with inReset := false, ticked := 0 } else s))

/-! ### SET DEVICE -/

/-- A divider written: the count toward the next tick restarts when it changes (R27). -/
def restartTick (divider : Nat) (s : State) : State := if divider = s.device.divider then s else { s with ticked := 0 }

/-- The four device settings replaced together, with the divider's effect on the tick (R27, R185). -/
def setDevice (d : Device) (s : State) : State := { restartTick d.divider s with device := d }

/-- SET DEVICE taken: the settings; P0's held requests answered CLOSED when boot pass goes off; the new response limit
tested at once (R98, R141, R185; log entry 8). -/
def applyDevice (d : Device) (s : State) : State :=
  let t := setDevice d s
  let cleared := if s.device.bootPass && !d.bootPass then clearQueue .closed .p0 t else t
  if d.limit = s.device.limit then cleared else timeoutTest cleared

/-- SET DEVICE (R185). -/
def takeSetDevice (divider : Byte) (limit : BitVec 16) (pulse bootPass : Byte) (s : State) : State × Reply :=
  match dividerOf divider, flagOf bootPass with
  | some d, some b =>
    if pulse = 0 then refuse .badArg s
    else if s.sched.gate ≠ .stopped then refuse .wrongState s
    else (applyDevice ⟨d, limit.toNat, pulse.toNat, b⟩ s, replyOnly .done)
  | _, _ => refuse .badArg s

/-- SET DEVICE as a step of the link. -/
def execSetDevice (divider : Byte) (limit : BitVec 16) (pulse bootPass : Byte) (s : State) : Host.Outcome State Fault Refusal :=
  commandStep (.setDevice divider limit pulse bootPass) (takeSetDevice divider limit pulse bootPass) s

/-! ### RESET GATE -/

/-- The acceptance of RESET GATE in STOPPED: P0's held requests answered CLOSED, and the drain begins (R100, R189). -/
def beginReset (s : State) : State :=
  clearQueue .closed .p0 { s with link := { s.link with resetting := true, resetDue := false } }

/-- RESET GATE (R189). -/
def takeResetGate (s : State) : State × Reply :=
  match s.sched.gate with
  | .running | .halting | .faulted => refuse .wrongState s
  | .armed => (beginReset (enterStopped s), replyOnly .accepted)
  | .stopped => (beginReset s, replyOnly .accepted)

/-- RESET GATE as a step of the link. -/
def execResetGate (s : State) : Host.Outcome State Fault Refusal := commandStep .resetGate takeResetGate s

/-- The drain has ended: the issue list and the buffer are both empty (R190). -/
def drained (s : State) : Bool := s.mem.issueList.isEmpty && s.posted.isEmpty

/-- A gate tick at which the drain is found ended makes the reset step due (R190). -/
def tickReset (s : State) : State :=
  if s.link.resetting && drained s then { s with link := { s.link with resetDue := true } } else s

/-- The reset step: the nine items of R190. The schedule controller, STOPPED with its lines low and nothing pending, takes
the whole soft-reset column of Table 2-1. -/
def resetStep (s : State) : State :=
  { setDevice Device.initial s with
    sync := { s.sync with mode := .off, edge := .rising, limit := 0, capture := Capture.empty }
    events := State.reset.events
    mem := { s.mem with report := RecoveryReport.empty }
    sched := Schedule.initial
    plans := plansAfterReset s.plans
    check := none
    lastWinner := .retire
    link := { s.link with resetting := false, resetDue := false, lastResult := .done, lastCode := resetGateCode } }

/-- The reset step that the last gate tick made due. -/
def takeResetStep (s : State) : State := if s.link.resetDue then resetStep s else s

/-- RESET_STEP (R190). -/
def execResetStep (s : State) : Host.Outcome State Fault Refusal := onEvent takeResetStep s

end Sys2Proof.Machine
end

