-- ==== Sys2Proof/Machine/Tick.lean ====
section
/-! DEFINITION. The gate tick and the reference clock (R26, R27). A gate tick advances every count. Where a count comes
to its end, the event of that end is due at that tick: it is a command of its own, which may be taken before or after
the other events of the tick. Whatever no command has taken is taken when the queue is empty, before the clock goes on,
and else first by the next gate tick (log entry 4). -/

namespace Sys2Proof.Machine

/-- Every event that the last gate tick made due and that no command has taken yet, in the table's order. -/
def takeDue (s : State) : State :=
  takeResetStep (expireReadyWait (endPulse (timeoutTest (completeCheck (expireAll (takeOwedWalk s))))))

/-- The walk's share of a gate tick: taken at once, but left to WINDOW_EXPIRY when the window expires at the tick (R29). -/
def tickWalk (s : State) : State :=
  if expiryDue s then { s with sched := { s.sched with walkOwed := true } } else takeWalkTick s

/-- The memory port's recovery takes its share of a gate tick. -/
def tickMemory (s : State) : State :=
  tickAges { s with mem := { s.mem with recovery := tickRecovery s.mem.recovery } }

/-- One gate tick: the walk, the deadlines, the ages, the recovery, the check and the drain (R26). The count of
reference-clock cycles toward the next tick starts again. -/
def gateTick (s : State) : State :=
  tickReset (tickCheck (tickMemory (tickDeadlines (tickWalk { takeDue s with ticked := 0 }))))

/-- GATE_TICK (R26). -/
def execGateTick (s : State) : Host.Outcome State Fault Refusal := onEvent gateTick s

/-- Some event that a gate tick made due has not been taken yet (log entry 4). -/
def somethingDue (s : State) : Bool :=
  s.sched.walkOwed || allPorts.any (fun p => (s.ports.get p).queue.any (fun h => h.deadline == some 0))
    || s.check.any (·.due) || overdue s || s.mem.recovery == .pulse 0 || s.mem.recovery == .wait 0 || s.link.resetDue

/-- A gate tick of the reference clock, at which no command waits: what falls due at it is taken at it (R26, R29). -/
def clockTick (s : State) : State := takeDue (gateTick s)

/-- One reference-clock cycle: it is counted, and the gate tick comes when the count reaches the tick divider (R26, R27). -/
def countCycle (s : State) : State :=
  if s.ticked + 1 < s.device.divider then { s with ticked := s.ticked + 1 } else clockTick s

/-- What the part does while no command waits: it takes what a GATE_TICK left due, and only then does a reference-clock
cycle pass (R26, R27, R29; log entry 10). In reset no tick comes. -/
def clockCycle (s : State) : Host.Outcome State Fault Refusal :=
  onEvent (fun t => if somethingDue t then takeDue t else countCycle t) s

end Sys2Proof.Machine
end

