-- ==== Sys2Proof/Machine/LinkBytes.lean ====
section
/-! DEFINITION. The management link byte by byte: chip-select, clocked bytes, BAD_CRC and UNKNOWN (R176 to R179). -/

namespace Sys2Proof.Machine

/-- The rule of a management command: what taking it does and returns (Table 11-2). None for the other rows. -/
def commandRule : Instr → Option (State → State × Reply)
  | .status => some takeStatus
  | .takeEvents m => some (takeTakeEvents m)
  | .readFault p t => some (takeReadFault p t)
  | .readSync t => some (takeReadSync t)
  | .readRecoveryReport => some takeReadRecoveryReport
  | .setAlerts m => some (takeSetAlerts m)
  | .setDevice d l p b => some (takeSetDevice d l p b)
  | .setSync m e l => some (takeSetSync m e l)
  | .writeWindow n i l o d => some (takeWriteWindow n i l o d)
  | .setWindowCount n c => some (takeSetWindowCount n c)
  | .writeRegion n i b z r q => some (takeWriteRegion n i b z r q)
  | .setRegionCount n c => some (takeSetRegionCount n c)
  | .writePortSettings n p h q => some (takeWritePortSettings n p h q)
  | .writeCosts n o b => some (takeWriteCosts n o b)
  | .readPlanItem n t i => some (takeReadPlanItem n t i)
  | .copyPlan => some takeCopyPlan
  | .checkPlan n => some (takeCheckPlan n)
  | .requestSwap n => some (takeRequestSwap n)
  | .withdrawSwap => some takeWithdrawSwap
  | .start m => some (takeStart m)
  | .halt => some takeHalt
  | .haltNow => some takeHaltNow
  | .recover => some takeRecover
  | .resetGate => some takeResetGate
  | .por | .rst | .linkReset _ | .linkResetRelease _ | .gateTick | .windowExpiry | .holdLimitExpiry _
  | .checkCompletion | .timeout | .recoveryPulseEnd _ | .memrdyAsserted | .readyWaitExpiry | .resetStep
  | .syncEdge _ | .requestArrival _ _ | .grant _ | .memoryResponse _ | .chipSelectFall | .chipSelectRise _
  | .badCrc _ _ | .unknown _ | .linkByte _ | .resetRelease => none

/-- A frame with a matching CRC is taken: by its command's rule, or as UNKNOWN (R178). -/
def takeFrame (frame : List Byte) (s : State) : State :=
  let code := frame.headD 0x00
  match (decodeFrame frame).bind commandRule with
  | some rule => takeCommand code rule s
  | none => answerUnknown code s

/-- The CRC byte of the frame received (R178). -/
def takeCrcByte (crc : Byte) (s : State) : State :=
  if crc8 s.link.frame = crc then takeFrame s.link.frame s else answerBadCrc (s.link.frame.headD 0x00) s

/-- The data output after a byte. -/
def setDataOut (b : Byte) (s : State) : State := { s with link := { s.link with dataOut := b } }

/-- A byte in COMMAND: added to the frame, or the CRC byte after a complete frame (R176; log entry 6). -/
def commandByte (b : Byte) (s : State) : State :=
  if frameComplete s.link.frame then takeCrcByte b s
  else { s with link := { s.link with frame := s.link.frame ++ [b] } }

/-- A byte in RESPONSE: the next response byte is shifted out, and after the last the link enters TRAIL (R176). -/
def responseByte (s : State) : State :=
  match s.link.response with
  | [] => { s with link := { s.link with phase := .trail } }
  | [b] => setDataOut b { s with link := { s.link with response := [], phase := .trail } }
  | b :: rest => setDataOut b { s with link := { s.link with response := rest } }

/-- One byte clocked on the link, by the transaction state (R176). In IDLE there is no transaction. -/
def takeByte (b : Byte) (s : State) : State :=
  match s.link.phase with
  | .idle => s
  | .command => commandByte b (setDataOut 0xFF s)
  | .response => responseByte s
  | .trail => setDataOut 0xFF s

/-- LINK_BYTE (R176). -/
def execLinkByte (b : Byte) (s : State) : Host.Outcome State Fault Refusal := onEvent (takeByte b) s

/-- The level of chip-select: low when true. -/
def setSelected (low : Bool) (s : State) : State := { s with link := { s.link with selected := low } }

/-- A fall of chip-select enters COMMAND with no byte received (R176). -/
def beginTransaction (s : State) : State :=
  { s with link := { s.link with phase := .command, frame := [], response := [], dataOut := 0xFF } }

/-- CHIP_SELECT_FALL (R176). A chip-select already low does not fall, and a fall in reset begins no transaction. -/
def execChipSelectFall (s : State) : Host.Outcome State Fault Refusal :=
  if s.link.selected then .next (quiet s) else onEvent beginTransaction (setSelected true s)

/-- A truncated frame: discarded, with result TRUNCATED, its code byte if complete, and LINK_ERROR (R179). -/
def truncateFrame (s : State) : State :=
  raise .linkError (setLastResult .truncated (s.link.frame.headD 0x00) s)

/-- The link returned to IDLE. -/
def endTransaction (s : State) : State := { s with link := { s.link with phase := .idle, frame := [], response := [] } }

/-- A rise of chip-select in the transaction state it finds (R179). -/
def riseSelect (edges : Fin 8) (s : State) : State :=
  match s.link.phase with
  | .command => endTransaction (if s.link.frame.isEmpty && edges == 0 then s else truncateFrame s)
  | .idle | .response | .trail => endTransaction s

/-- CHIP_SELECT_RISE (R179). A chip-select already high does not rise. -/
def execChipSelectRise (edges : Fin 8) (s : State) : Host.Outcome State Fault Refusal :=
  if s.link.selected then onEvent (riseSelect edges) (setSelected false s) else .next (quiet s)

/-- BAD_CRC (R178): the CRC byte of a complete frame that does not match it. With a CRC byte that matches, or a frame
that is not complete, there is no such event (log entry 5). -/
def execBadCrc (frame : List Byte) (crc : Byte) (s : State) : Host.Outcome State Fault Refusal :=
  if frameComplete frame && crc8 frame != crc then frameStep frame (answerBadCrc (frame.headD 0x00)) s else .next (quiet s)

/-- UNKNOWN (R178): the matching CRC byte after a code that is not in Table 11-2. With a known code there is no such
event (log entry 5). -/
def execUnknown (code : Byte) (s : State) : Host.Outcome State Fault Refusal :=
  if (commandRow code).isNone then frameStep [code] (answerUnknown code) s else .next (quiet s)

end Sys2Proof.Machine
end

