-- ==== Sys2Proof/Machine/Dispatch.lean ====
section
/-! DEFINITION. One arm for each command. -/

namespace Sys2Proof.Machine

def exec (i : Instr) (s : State) : Host.Outcome State Fault Refusal :=
  match i with
  | .por => Sys2Proof.Machine.execPor s
  | .rst => Sys2Proof.Machine.execRst s
  | .linkReset p => Sys2Proof.Machine.execLinkReset p s
  | .linkResetRelease p => Sys2Proof.Machine.execLinkResetRelease p s
  | .gateTick => Sys2Proof.Machine.execGateTick s
  | .windowExpiry => Sys2Proof.Machine.execWindowExpiry s
  | .holdLimitExpiry p => Sys2Proof.Machine.execHoldLimitExpiry p s
  | .checkCompletion => Sys2Proof.Machine.execCheckCompletion s
  | .timeout => Sys2Proof.Machine.execTimeout s
  | .recoveryPulseEnd memrdy => Sys2Proof.Machine.execRecoveryPulseEnd memrdy s
  | .memrdyAsserted => Sys2Proof.Machine.execMemrdyAsserted s
  | .readyWaitExpiry => Sys2Proof.Machine.execReadyWaitExpiry s
  | .resetStep => Sys2Proof.Machine.execResetStep s
  | .syncEdge e => Sys2Proof.Machine.execSyncEdge e s
  | .requestArrival p r => Sys2Proof.Machine.execRequestArrival p r s
  | .grant memReady => Sys2Proof.Machine.execGrant memReady s
  | .memoryResponse m => Sys2Proof.Machine.execMemoryResponse m s
  | .chipSelectFall => Sys2Proof.Machine.execChipSelectFall s
  | .chipSelectRise edges => Sys2Proof.Machine.execChipSelectRise edges s
  | .badCrc frame crc => Sys2Proof.Machine.execBadCrc frame crc s
  | .unknown code => Sys2Proof.Machine.execUnknown code s
  | .status => Sys2Proof.Machine.execStatus s
  | .takeEvents mask => Sys2Proof.Machine.execTakeEvents mask s
  | .readFault port take => Sys2Proof.Machine.execReadFault port take s
  | .readSync take => Sys2Proof.Machine.execReadSync take s
  | .readRecoveryReport => Sys2Proof.Machine.execReadRecoveryReport s
  | .setAlerts kinds => Sys2Proof.Machine.execSetAlerts kinds s
  | .setDevice divider limit pulse bootPass => Sys2Proof.Machine.execSetDevice divider limit pulse bootPass s
  | .setSync mode edge limit => Sys2Proof.Machine.execSetSync mode edge limit s
  | .writeWindow plan index length openSet drain => Sys2Proof.Machine.execWriteWindow plan index length openSet drain s
  | .setWindowCount plan count => Sys2Proof.Machine.execSetWindowCount plan count s
  | .writeRegion plan index base size rights posting => Sys2Proof.Machine.execWriteRegion plan index base size rights posting s
  | .setRegionCount plan count => Sys2Proof.Machine.execSetRegionCount plan count s
  | .writePortSettings plan port holdLimit quota => Sys2Proof.Machine.execWritePortSettings plan port holdLimit quota s
  | .writeCosts plan overhead beatCost => Sys2Proof.Machine.execWriteCosts plan overhead beatCost s
  | .readPlanItem plan item index => Sys2Proof.Machine.execReadPlanItem plan item index s
  | .copyPlan => Sys2Proof.Machine.execCopyPlan s
  | .checkPlan plan => Sys2Proof.Machine.execCheckPlan plan s
  | .requestSwap plan => Sys2Proof.Machine.execRequestSwap plan s
  | .withdrawSwap => Sys2Proof.Machine.execWithdrawSwap s
  | .start mode => Sys2Proof.Machine.execStart mode s
  | .halt => Sys2Proof.Machine.execHalt s
  | .haltNow => Sys2Proof.Machine.execHaltNow s
  | .recover => Sys2Proof.Machine.execRecover s
  | .resetGate => Sys2Proof.Machine.execResetGate s
  | .linkByte b => Sys2Proof.Machine.execLinkByte b s
  | .resetRelease => Sys2Proof.Machine.execResetRelease s

end Sys2Proof.Machine
end

