-- ==== Sys2Proof/Safety.lean ====
section
/-! DEFINITION. What counts as a safe part: the laws the manual states of every state the part can be in, one definition
for each, and `Lawful`, which is all of them. Beside them the words that statements about one command use: when a command
can be sent, the answer it gets, and what the manual's own search orders and maxima come to, said without the machine's
steps. -/

namespace Sys2Proof.Machine

/-! ### Traffic -/

/-- The tags of a port's held requests, head first. -/
def heldTags (s : State) (p : Port) : List Tag := (s.ports.get p).queue.map (·.tag)

/-- The master tags of a port's requests in the issue list whose orphan flag is clear, oldest first. -/
def issuedTags (s : State) (p : Port) : List Tag :=
  s.mem.issueList.filterMap (fun e => match e.source with
    | .port q t => if q = p ∧ e.orphan = false then some t else none
    | .posted => none)

/-- R63: each outstanding tag of a port belongs to exactly one request that is held, or issued and not orphan. -/
def TagLaw (s : State) : Prop :=
  ∀ p, (s.ports.get p).tags.Nodup ∧ (heldTags s p ++ issuedTags s p).Perm (s.ports.get p).tags

/-- The issue tag, address and beats of a posted entry that is IN_FLIGHT. -/
def inFlightKey (e : PostedEntry) : Option (IssueTag × Addr × Nat) :=
  match e.state with
  | .inFlight t => some (t, e.addr, e.beats)
  | .waiting => none

/-- The issue tag, address and beats of an issue-list entry whose source is POSTED. -/
def postedKey (e : IssueEntry) : Option (IssueTag × Addr × Nat) :=
  match e.source with
  | .posted => some (e.issueTag, e.addr, e.beats)
  | .port _ _ => none

/-- The sizes of the buffers (R80, R104, R128), the distinct issue tags (R136), the kind and the flag of a POSTED entry
(R126, R133), and the match of the IN_FLIGHT entries with the POSTED entries of the issue list (R115 to R118). -/
def BufferLaw (s : State) : Prop :=
  (∀ p, (s.ports.get p).queue.length ≤ 8) ∧ s.posted.length ≤ 16 ∧ s.mem.issueList.length ≤ 16
    ∧ (s.mem.issueList.map (·.issueTag)).Nodup
    ∧ (∀ e ∈ s.mem.issueList, e.source = .posted → e.kind = .write ∧ e.orphan = false)
    ∧ (s.posted.filterMap inFlightKey).Perm (s.mem.issueList.filterMap postedKey)

/-! ### The gate and the memory port -/

/-- The hold queues are those the gate state allows: none in FAULTED; none of P1 to P3 in STOPPED and ARMED, and none of
P0 with boot pass off or RESET GATE in progress (R94, R97 to R100, R138). -/
def QueueLaw (s : State) : Prop :=
  (s.sched.gate = .faulted → ∀ p, (s.ports.get p).queue = [])
    ∧ (s.sched.gate = .stopped ∨ s.sched.gate = .armed →
        s.ports.p1.queue = [] ∧ s.ports.p2.queue = [] ∧ s.ports.p3.queue = []
          ∧ (s.device.bootPass = false → s.ports.p0.queue = []))
    ∧ (s.link.resetting = true → s.ports.p0.queue = [])

/-- R139 and what goes with it: the gate is FAULTED exactly while the memory port is not READY; RESETTING is exactly a
recovery in progress (R144), and MEMRST is asserted exactly in its pulse (R140); in FAULTED nothing is issued or
IN_FLIGHT (R118, R143); RESET GATE is in progress in STOPPED alone (R31), and its step is due only with the drain ended
(R190). -/
def GateLaw (s : State) : Prop :=
  (s.sched.gate = .faulted ↔ s.mem.state ≠ .ready)
    ∧ (s.mem.state = .resetting ↔ s.mem.recovery ≠ .idle)
    ∧ (s.mem.state = .resetting ↔ s.mem.report.outcome = .inProgress)
    ∧ (s.mem.memrst = true ↔ ∃ n, s.mem.recovery = .pulse n)
    ∧ (s.sched.gate = .faulted → s.mem.issueList = [] ∧ ∀ e ∈ s.posted, e.state = .waiting)
    ∧ (s.link.resetting = true → s.sched.gate = .stopped)
    ∧ (s.link.resetDue = true → s.link.resetting = true ∧ s.mem.issueList = [] ∧ s.posted = [])
    ∧ QueueLaw s

/-! ### The plan store -/

/-- The greatest of a list of lengths, 0 for none. -/
def longest (lengths : List Nat) : Nat := lengths.foldr max 0

/-- The derived values of a list of windows, as R6 defines them. -/
def derivedOf (windows : List Window) : Derived where
  longestOpen := ⟨openLongest .p0, openLongest .p1, openLongest .p2, openLongest .p3⟩
  longestRetire := ⟨retireLongest .p0, retireLongest .p1, retireLongest .p2, retireLongest .p3⟩
  frameLength := (windows.map (·.length)).sum
where
  /-- The longest window open to the port. -/
  openLongest (p : Port) : Nat := longest ((windows.filter (fun w => openTo w p)).map (·.length))
  /-- The longest window open to the port or with drain=yes. -/
  retireLongest (p : Port) : Nat := longest ((windows.filter (fun w => openTo w p || w.drain)).map (·.length))

/-- The windows of index below `n`. -/
def windowsBelow (p : Plan) (n : Nat) : List Window := (List.range n).map (windowAt p)

/-- The lowest counted window that is unwritten, if any. -/
def unsetWindow (p : Plan) : Option Nat := (List.range p.windowCount).find? (fun i => (windowAt p i).length == 0)

/-- What is wrong with a region, in the order of R19 step 4. -/
def regionFinding (p : Plan) (i : Nat) : Option CheckFailure :=
  if (regionAt p i).size = 0 then some (.regionUnset i)
  else if 4294967296 < (regionAt p i).base.toNat + (regionAt p i).size then some (.regionRange i)
  else none

/-- What CHECK finds in a plan: the first failure of Table 1-5, or none. -/
def finding (p : Plan) : Option CheckFailure :=
  if p.windowCount = 0 then some .noWindows
  else match unsetWindow p with
    | some i => some (.windowUnset i)
    | none =>
      if (windowsBelow p p.windowCount).all quietWindow then some .allQuiet
      else match (List.range p.regionCount).findSome? (regionFinding p) with
        | some f => some f
        | none =>
          ([Port.p0, .p1, .p2, .p3].find? (fun q => 0 < (p.settings.get q).quota
            && (derivedOf (windowsBelow p p.windowCount)).longestRetire.get q == 0)).map .stranded

/-- The windows that CHECK folds into the derived values: those below the first unwritten one (R20). -/
def foldedWindows (p : Plan) : List Window := windowsBelow p ((unsetWindow p).getD p.windowCount)

/-- The number of windows and regions that CHECK visits (R19). -/
def visits (p : Plan) : Nat :=
  match finding p with
  | some .noWindows => 0
  | some (.windowUnset i) => i + 1
  | some .allQuiet => p.windowCount
  | some (.regionUnset i) => p.windowCount + i + 1
  | some (.regionRange i) => p.windowCount + i + 1
  | some (.stranded _) => p.windowCount + p.regionCount
  | none => p.windowCount + p.regionCount

/-- The warnings of R21: a port with rights in a counted region whose longest open window is 0; no counted region. -/
def passedReport (p : Plan) : Report :=
  .passed ⟨warned .p0, warned .p1, warned .p2, warned .p3⟩ (p.regionCount == 0)
where
  /-- UNREACHABLE of the port. -/
  warned (q : Port) : Bool :=
    (List.range p.regionCount).any (fun i => (regionAt p i).rights.get q != .none)
      && (derivedOf (windowsBelow p p.windowCount)).longestOpen.get q == 0

/-- A plan that can govern the gate: CHECK finds nothing in it, and its derived values and report describe it (R6, R7,
R21). -/
def SoundPlan (p : Plan) : Prop :=
  finding p = none ∧ p.derived = derivedOf (windowsBelow p p.windowCount) ∧ p.report = passedReport p

/-- A check in progress stands where R19 and R20 have it after the visits it has made. -/
def CheckProgress (p : Plan) (c : CheckRun) : Prop :=
  match c.point with
  | .window i => i < p.windowCount ∧ (∀ j < i, (windowAt p j).length ≠ 0)
      ∧ c.built = derivedOf (windowsBelow p i) ∧ c.due = false
  | .region i => i < p.regionCount ∧ p.windowCount ≠ 0 ∧ unsetWindow p = none
      ∧ (windowsBelow p p.windowCount).all quietWindow = false ∧ (∀ j < i, regionFinding p j = none)
      ∧ c.built = derivedOf (windowsBelow p p.windowCount) ∧ c.due = false
  | .finish f => f = finding p ∧ c.built = derivedOf (foldedWindows p)

/-- The law of the plan store: at most one plan ACTIVE, and a pending swap only while the gate walks, with its target
READY (R24, R25, R32); a plan CHECKING exactly while a check runs on it; every READY or ACTIVE plan sound; a report of
PASSED only there; and an ACTIVE plan whenever the gate is ARMED, RUNNING or HALTING (R33). -/
def PlanLaw (s : State) : Prop :=
  ¬(s.plans.a.state = .active ∧ s.plans.b.state = .active)
    ∧ (∀ n, s.sched.pendingSwap = some n → (s.plans.get n).state = .ready ∧ walking s = true)
    ∧ (∀ n, (s.plans.get n).state = .checking ↔ s.check.map (·.plan) = some n)
    ∧ (∀ n, (s.plans.get n).state = .ready ∨ (s.plans.get n).state = .active → SoundPlan (s.plans.get n))
    ∧ (∀ n, (s.plans.get n).state = .checking → (s.plans.get n).report = .none)
    ∧ (∀ n u w, (s.plans.get n).state = .edit → (s.plans.get n).report ≠ .passed u w)
    ∧ (∀ c, s.check = some c → CheckProgress (s.plans.get c.plan) c)
    ∧ (walking s = true ∨ s.sched.gate = .armed → activePlan s ≠ none)

/-! ### The schedule controller -/

/-- R48 with R32 and R44: in RUNNING and HALTING the position lies in the active plan and the OPEN lines show the current
window; at other times the lines are low and nothing is owed to the walk; a halt is pending exactly in HALTING, and the
START mode is ON_SYNC exactly in ARMED. -/
def ScheduleLaw (s : State) : Prop :=
  (walking s = true → s.sched.window < (governing s).windowCount ∧ s.sched.offset < (currentWindow s).length
      ∧ s.sched.openLines = (currentWindow s).openSet)
    ∧ (walking s = false → s.sched.openLines = 0 ∧ s.sched.frameLine = false ∧ s.sched.walkOwed = false)
    ∧ (s.sched.pendingHalt = true ↔ s.sched.gate = .halting)
    ∧ (s.sched.startOnSync = true ↔ s.sched.gate = .armed)

/-! ### Requests under the active plan -/

/-- A request lies within one counted region of the plan that grants its port the right its kind needs (R79). -/
def InRegion (plan : Plan) (p : Port) (kind : Kind) (a : Addr) (beats : Nat) : Prop :=
  ∃ i, i < plan.regionCount ∧ (regionAt plan i).base.toNat ≤ a.toNat
    ∧ a.toNat + 8 * beats ≤ (regionAt plan i).base.toNat + (regionAt plan i).size
    ∧ ((regionAt plan i).rights.get p = .readWrite ∨ ((regionAt plan i).rights.get p = .read ∧ kind = .read))

/-- In RUNNING and HALTING every held request lies in a region that admits it, has its cost under the active plan, and
fits the longest window open to its port (R77, R79, R82, R88). -/
def HeldLaw (s : State) : Prop :=
  walking s = true → ∀ p, ∀ h ∈ (s.ports.get p).queue,
    InRegion (governing s) p h.kind h.addr h.beats
      ∧ h.cost = some ((governing s).overhead + h.beats * (governing s).beatCost)
      ∧ (governing s).overhead + h.beats * (governing s).beatCost ≤ (governing s).derived.longestOpen.get p

/-- A posted entry with a posting plan was posted under the plan that is still ACTIVE, and its cost fits the longest
retire window of its port (R107, R110, R112). -/
def PostingLaw (s : State) : Prop :=
  ∀ e ∈ s.posted, ∀ n, e.plan = some n → activePlan s = some n
    ∧ (s.plans.get n).overhead + e.beats * (s.plans.get n).beatCost ≤ (s.plans.get n).derived.longestRetire.get e.port

/-! ### Ranges -/

/-- A span of the bus: 1 to 16 beats, a multiple of 8, inside one 4 KiB page (R49, R56). -/
def SpanRange (a : Addr) (beats : Nat) : Prop :=
  1 ≤ beats ∧ beats ≤ 16 ∧ a.toNat % 8 = 0 ∧ a.toNat % 4096 + 8 * beats ≤ 4096

/-- Write data: as many beats as the beat count for a WRITE, none for a READ (R49). -/
def DataRange (kind : Kind) (beats : Nat) (data : List Beat) : Prop :=
  data.length = match kind with
    | .read => 0
    | .write => beats

/-- The derived values are in the ranges of R6. -/
def DerivedRange (d : Derived) : Prop :=
  (∀ p, d.longestOpen.get p ≤ 65535 ∧ d.longestRetire.get p ≤ 65535) ∧ d.frameLength ≤ 2097120

/-- The index of a check report is that of a window or a region record (R7). -/
def ReportRange : Report → Prop
  | .failed (.windowUnset i) => i ≤ 31
  | .failed (.regionUnset i) => i ≤ 15
  | .failed (.regionRange i) => i ≤ 15
  | .failed .noWindows | .failed .allQuiet | .failed (.stranded _) | .none | .passed _ _ => True

/-- The parts of a plan are in the ranges of R2 to R7. -/
def PlanRange (p : Plan) : Prop :=
  p.windowCount ≤ 32 ∧ p.regionCount ≤ 16 ∧ p.overhead ≤ 63 ∧ p.beatCost ≤ 15
    ∧ (∀ w ∈ p.windows.toList, w.length ≤ 65535)
    ∧ (∀ r ∈ p.regions.toList, r.base.toNat % 4096 = 0 ∧ r.size % 4096 = 0 ∧ r.size ≤ 4294967296)
    ∧ (∀ q, (p.settings.get q).holdLimit ≤ 65535 ∧ (p.settings.get q).quota ≤ 16)
    ∧ DerivedRange p.derived ∧ ReportRange p.report

/-- The position, the settings and the counts are in the ranges of Tables 2-1, 5-1, 6-1, 7-2, 10-2, 11-6 and of R144,
R153 and R155. A deadline of 0 is one that is due (log entry 4). -/
def RangeLaw (s : State) : Prop :=
  (∀ n, PlanRange (s.plans.get n))
    ∧ s.sched.window ≤ 31 ∧ s.sched.offset ≤ 65534
    ∧ (∀ p, ∀ h ∈ (s.ports.get p).queue, SpanRange h.addr h.beats ∧ DataRange h.kind h.beats h.data
        ∧ (∀ c, h.cost = some c → c ≤ 303) ∧ (∀ d, h.deadline = some d → d ≤ 65535))
    ∧ (∀ e ∈ s.posted, SpanRange e.addr e.beats ∧ DataRange .write e.beats e.data)
    ∧ (∀ e ∈ s.mem.issueList, SpanRange e.addr e.beats ∧ e.age ≤ 65535)
    ∧ s.mem.report.lost + s.mem.report.answered ≤ 16
    ∧ s.sync.limit ≤ 4095
    ∧ (∀ c, s.sync.capture.position = some c → c.window ≤ 31 ∧ c.offset ≤ 65534 ∧ c.ticks < c.length ∧ c.length ≤ 2097120)
    ∧ (∀ p, (s.events.faults.get p).later ≤ 255 ∧ ((s.events.faults.get p).first = none → (s.events.faults.get p).later = 0)
        ∧ (∀ i, (s.events.faults.get p).first = some i → 1 ≤ i.beats ∧ i.beats ≤ 16 ∧ ∀ w, i.window = some w → w ≤ 31))
    ∧ s.device.divider ∈ [1, 2, 4, 8, 16, 32, 64, 128, 256] ∧ s.device.limit ≤ 65535
    ∧ 1 ≤ s.device.pulse ∧ s.device.pulse ≤ 255

/-! ### Events and the link -/

/-- R170: ALERT is asserted exactly when the event set and the enable set share a kind. -/
def AlertLaw (s : State) : Prop :=
  s.events.alert = true ↔ ∃ k : EventKind, s.events.set.getLsbD (eventIndex k) = true
    ∧ s.events.enabled.getLsbD (eventIndex k) = true

/-- The transaction state (R176): out of IDLE chip-select is low and the part is out of reset; bytes of a frame are kept
in COMMAND alone, and no more than a code and its operands; response bytes are left exactly in RESPONSE. -/
def LinkLaw (s : State) : Prop :=
  (s.link.phase ≠ .idle → s.link.selected = true ∧ s.inReset = false)
    ∧ (s.link.frame ≠ [] → s.link.phase = .command)
    ∧ (s.link.response ≠ [] ↔ s.link.phase = .response)
    ∧ s.link.frame.length ≤ 1 + operandLength (s.link.frame.headD 0x00)

/-- Every law. -/
def Lawful (s : State) : Prop :=
  TagLaw s ∧ BufferLaw s ∧ GateLaw s ∧ PlanLaw s ∧ ScheduleLaw s ∧ HeldLaw s ∧ PostingLaw s ∧ RangeLaw s
    ∧ AlertLaw s ∧ LinkLaw s

/-! ### When a command can be sent, and its answer -/

/-- The link can carry the command's frame now: the part is out of reset, and a transaction under way has received
nothing but the first bytes of that frame (R176, log entry 6). -/
def Sendable (c : Instr) (s : State) : Prop :=
  s.inReset = false ∧ ∃ frame, encodeFrame c = some frame ∧ (s.link.phase = .command → s.link.frame <+: frame)

/-- The command can be sent and no RESET GATE is in progress, so that its own rule decides (R181). -/
def Open (c : Instr) (s : State) : Prop := Sendable c s ∧ s.link.resetting = false

/-- The response bytes of a result and its data: the result code, the data and their CRC (R177, R178). -/
def responseOf (r : Result) (data : List Byte) : List Byte := resultCode r :: data ++ [crc8 (resultCode r :: data)]

/-- The state `t` with a frame of this code answered: the link in RESPONSE with the response to be shifted out, its data
output at 0xFF, and the last-command result (R176, R178, R180). -/
def answered (code : Byte) (r : Result) (data : List Byte) (t : State) : State :=
  { t with link := { t.link with
      phase := .response, selected := true, frame := [], response := responseOf r data, dataOut := 0xFF,
      lastResult := r, lastCode := code } }

/-- The plan operand that names a plan (Table 11-3). -/
def planByte : PlanName → Byte
  | .a => 0x00
  | .b => 0x01

/-- The port operand that names a port (Table 11-3). -/
def portByte : Port → Byte
  | .p0 => 0x00
  | .p1 => 0x01
  | .p2 => 0x02
  | .p3 => 0x03

/-- The number that a run of bytes of a data field spells, most significant byte first (R182). -/
def fieldAt (data : List Byte) (offset bytes : Nat) : Nat :=
  ((data.drop offset).take bytes).foldl (fun n b => 256 * n + b.toNat) 0

/-! ### What an event leaves, port by port -/

/-- A value for each port, by a rule. -/
def perPort {α : Type} (f : Port → α) : PerPort α := ⟨f .p0, f .p1, f .p2, f .p3⟩

/-- The event unit with the kinds of a mask raised (R165, R169). -/
def eventsWith (mask : BitVec 12) (e : EventUnit) : EventUnit :=
  { e with set := e.set ||| mask, alert := ((e.set ||| mask) &&& e.enabled) != 0 }

/-- A fault record with one more fault (R172). -/
def bumped (r : FaultRecord) (i : FaultInfo) : FaultRecord :=
  if r.first = none then { r with first := some i } else { r with later := min (r.later + 1) 255 }

/-- The event unit handed the faults of each port, in each port's order; ACCESS_FAULT is raised if there is one (R172). -/
def faultsTaken (faults : Port → List FaultInfo) (e : EventUnit) : EventUnit :=
  if (allPorts.all fun p => (faults p).isEmpty) then e
  else eventsWith 0x001 { e with faults := perPort (fun p => (faults p).foldl bumped (e.faults.get p)) }

/-- The faults of one port and no other. -/
def faultsOf (p : Port) (faults : List FaultInfo) : Port → List FaultInfo := fun q => if q = p then faults else []

/-- A response without data, posted=no (R50). -/
def refusalTo (status : Status) (tag : Tag) : Response := ⟨tag, status, false, none⟩

/-- A tag set without the tags of a list. -/
def tagsWithout (tags gone : List Tag) : List Tag := tags.filter (fun t => !gone.contains t)

/-- A port unit whose held requests have all been answered (R97, R99). -/
def emptied (u : PortUnit) : PortUnit := { u with queue := [], tags := tagsWithout u.tags (u.queue.map (·.tag)) }

/-- The answers to a port's held requests, in queue order (R61). -/
def queueAnswers (status : Status) (u : PortUnit) : List Response := u.queue.map (fun h => refusalTo status h.tag)

/-- The part after an entry to STOPPED (R42, R97). -/
def stoppedFrom (s : State) : State :=
  { s with
    sched := { s.sched with
      gate := .stopped, pendingHalt := false, startOnSync := false, openLines := 0, frameLine := false, walkOwed := false }
    events := eventsWith 0x040 s.events
    ports := perPort (fun p => if p = .p0 ∧ s.device.bootPass = true then s.ports.p0 else emptied (s.ports.get p))
    out := { s.out with responses := perPort (fun p => s.out.responses.get p ++
      if p = .p0 ∧ s.device.bootPass = true then [] else queueAnswers .closed (s.ports.get p)) } }

/-- The status and reason that a refusing verdict gives; none for a pass (R68). -/
def refusalOf : Verdict → Option (Status × FaultReason)
  | .pass _ _ => none
  | .denied reason => some (.denied, reason)
  | .tooLong reason => some (.tooLong, reason)

/-- What plan entry refuses a held request with, under the plan now ACTIVE (R88). -/
def entryRefusal (s : State) (p : Port) (h : Held) : Option (Status × FaultReason) :=
  refusalOf (verdict (governing s) p h.kind h.addr h.beats)

/-- The held requests that plan entry refuses on a port, in queue order, with the status and reason of each (R88). -/
def entryRefused (s : State) (p : Port) : List (Held × Status × FaultReason) :=
  (s.ports.get p).queue.filterMap (fun h => (entryRefusal s p h).map (fun x => (h, x)))

/-- The record of a request that survives plan entry (R88 steps 3 and 4). -/
def entryRecord (s : State) (p : Port) (h : Held) : Held :=
  { h with
    cost := some ((governing s).overhead + h.beats * (governing s).beatCost)
    deadline := if h.deadline = none ∧ ((governing s).settings.get p).holdLimit ≠ 0
      then some ((governing s).settings.get p).holdLimit else h.deadline }

/-- The part after plan entry under the plan now ACTIVE (R88, R78). -/
def enteredFrom (s : State) : State :=
  { s with
    ports := perPort (fun p => { s.ports.get p with
      queue := ((s.ports.get p).queue.filter (fun h => (entryRefusal s p h).isNone)).map (entryRecord s p)
      tags := tagsWithout (s.ports.get p).tags ((entryRefused s p).map (·.1.tag)) })
    events := faultsTaken (fun p => (entryRefused s p).map
      (fun x => faultNow s x.2.2 x.1.tag x.1.kind x.1.addr x.1.beats)) s.events
    out := { s.out with responses := perPort (fun p => s.out.responses.get p ++
      (entryRefused s p).map (fun x => refusalTo x.2.1 x.1.tag)) } }

/-- The part with another plan made ACTIVE: the plan that was ACTIVE is READY, and its posted entries are carried (R23,
R30 step 2, R110). -/
def swappedTo (n : PlanName) (s : State) : State :=
  { s with
    plans := (s.plans.set n.other { s.plans.get n.other with
        state := if (s.plans.get n.other).state = .active then .ready else (s.plans.get n.other).state }).set n
      { s.plans.get n with state := .active }
    posted := s.posted.map (fun e =>
      if (s.plans.get n.other).state = .active ∧ e.plan = some n.other then { e with plan := none } else e) }

/-- The part after a frame boundary: the four steps of R30. -/
def boundaryFrom (s : State) : State :=
  let moved := { s with sched := { s.sched with frame := s.sched.frame + 1, window := 0, offset := 0, pendingSwap := none } }
  let swapped := match s.sched.pendingSwap with
    | none => moved
    | some n =>
      let entered := enteredFrom (swappedTo n moved)
      { entered with events := eventsWith 0x020 entered.events }
  if s.sched.pendingHalt then stoppedFrom swapped
  else { swapped with
    sched := { swapped.sched with openLines := (windowAt (governing swapped) 0).openSet, frameLine := true }
    events := eventsWith 0x200 swapped.events }

/-- The part after an entry to RUNNING (R35). -/
def runningFrom (s : State) : State :=
  enteredFrom { s with
    sched := { s.sched with
      gate := .running, startOnSync := false, frame := 0, window := 0, offset := 0, walkOwed := false
      openLines := (windowAt (governing s) 0).openSet, frameLine := true }
    events := eventsWith 0x200 s.events }

/-- The entries of the issue list that a port still owes a response for, oldest first. -/
def owedIssues (s : State) (p : Port) : List (Tag × IssueEntry) :=
  s.mem.issueList.filterMap (fun e => match e.source with
    | .port q t => if q = p ∧ e.orphan = false then some (t, e) else none
    | .posted => none)

/-- The posted entries that are IN_FLIGHT, oldest first. -/
def inFlightEntries (s : State) : List PostedEntry := s.posted.filter (fun e => e.state != .waiting)

/-- The faults that a memory failure hands for a port: its lost posted writes, then its abandoned requests (R143). -/
def failureFaults (s : State) (p : Port) : List FaultInfo :=
  ((inFlightEntries s).filter (fun e => e.port == p)).map (fun e => faultNow s .postedAbandoned e.tag .write e.addr e.beats)
    ++ (owedIssues s p).map (fun x => faultNow s .memAbandoned x.1 x.2.kind x.2.addr x.2.beats)

/-- The number of requests in the issue list that are owed a response (R143 step 3). -/
def owedCount (s : State) : Nat := (allPorts.map (fun p => (owedIssues s p).length)).sum

/-- The part after a memory failure: the seven steps of R143 with R40, R99, R118, R144 and R191. -/
def failedFrom (why : FailureKind) (s : State) : State :=
  let taken := faultsTaken (failureFaults s) s.events
  { s with
    mem := { s.mem with
      state := .failed
      issueList := []
      report := ⟨some why, if walking s then some s.sched.frame else none, (inFlightEntries s).length, owedCount s, .none⟩ }
    posted := s.posted.filter (fun e => e.state == .waiting)
    events := eventsWith (if (inFlightEntries s).isEmpty then 0x004 else 0x006) taken
    ports := perPort (fun p => { s.ports.get p with
      queue := []
      tags := tagsWithout (s.ports.get p).tags ((owedIssues s p).map (·.1) ++ heldTags s p) })
    out := { s.out with responses := perPort (fun p => s.out.responses.get p
      ++ (owedIssues s p).map (fun x => refusalTo .memFault x.1) ++ queueAnswers .memFault (s.ports.get p)) }
    sched := { s.sched with
      gate := .faulted, pendingSwap := none, pendingHalt := false, startOnSync := false, openLines := 0
      frameLine := false, walkOwed := false }
    link := if s.link.resetting
      then { s.link with resetting := false, resetDue := false, lastResult := .wrongState, lastCode := 0x26 }
      else s.link }

/-- Nothing that a gate tick made due is still to be taken (log entry 4). -/
def NothingDue (s : State) : Prop :=
  s.sched.walkOwed = false ∧ (∀ p, ∀ h ∈ (s.ports.get p).queue, h.deadline ≠ some 0)
    ∧ (∀ c, s.check = some c → c.due = false)
    ∧ (s.mem.state = .ready → ∀ e, s.mem.issueList.head? = some e → s.device.limit = 0 ∨ e.age < s.device.limit)
    ∧ s.mem.recovery ≠ .pulse 0 ∧ s.mem.recovery ≠ .wait 0 ∧ s.link.resetDue = false

/-- The part after a gate tick that finds nothing due, with what was presented kept (R26, R29, R44, R84, R128, R149, R151,
R190). A window that expires at the tick waits for WINDOW_EXPIRY (log entry 4). -/
def tickedFrom (s : State) : State :=
  { s with
    sched :=
      if walking s = false then { s.sched with frameLine := false }
      else if s.sched.offset + 1 = (currentWindow s).length then { s.sched with walkOwed := true }
      else { s.sched with offset := s.sched.offset + 1, frameLine := false }
    ports := perPort (fun p => { s.ports.get p with
      queue := (s.ports.get p).queue.map (fun h => { h with deadline := h.deadline.map (· - 1) }) })
    mem := { s.mem with
      issueList := s.mem.issueList.map (fun e => { e with age := min (e.age + 1) 65535 })
      recovery := match s.mem.recovery with
        | .idle => .idle
        | .pulse n => .pulse (n - 1)
        | .wait n => .wait (n - 1) }
    check := s.check.map (fun c => tickCheckRun (s.plans.get c.plan) c)
    link := { s.link with resetDue := s.link.resetting && s.mem.issueList.isEmpty && s.posted.isEmpty }
    ticked := 0 }

/-- The commands of the events that can fall due at a gate tick, in the table's order, with one HOLD_LIMIT_EXPIRY for each
place of a hold queue. -/
def dueCommands (memrdy : Bool) : List Instr :=
  [.windowExpiry] ++ allPorts.flatMap (fun p => List.replicate 8 (.holdLimitExpiry p))
    ++ [.checkCompletion, .timeout, .recoveryPulseEnd memrdy, .readyWaitExpiry, .resetStep]

/-- One more command, with what it presents added to what was presented before it. -/
def thenCommand (s : State) (c : Instr) : State :=
  match exec c s with
  | .next t =>
    { t with out :=
      { responses := perPort (fun p => s.out.responses.get p ++ t.out.responses.get p)
        issues := s.out.issues ++ t.out.issues } }
  | .fault _ => s
  | .refused _ => s

/-- The part after the commands of every event that can be due, one after another, with all that they present. -/
def dueTaken (s : State) : State := (dueCommands s.mem.memrdy).foldl thenCommand { s with out := Outputs.none }

/-! ### Readiness and the contenders -/

/-- A master port is ready (R52, Table 3-4). -/
def Ready (s : State) (p : Port) : Prop :=
  (s.ports.get p).linkReset = false ∧ (s.ports.get p).queue.length < 8
    ∧ (s.sched.gate = .running ∨ s.sched.gate = .halting ∨ s.sched.gate = .faulted
        ∨ (p = .p0 ∧ s.device.bootPass = true))
    ∧ s.link.resetting = false

/-- The request passes the bus rules at a ready port in RUNNING or HALTING, and so reaches the region checker (R54, R57). -/
def ReachesTheChecker (s : State) (p : Port) (r : Request) : Prop :=
  s.inReset = false ∧ r.wellFormed = true ∧ Ready s p ∧ walking s = true ∧ r.addr.toNat % 8 = 0
    ∧ r.addr.toNat % 4096 + r.beats * 8 ≤ 4096 ∧ r.tag ∉ (s.ports.get p).tags

/-- The region holds the byte at an address (R69). -/
def HoldsByte (r : Region) (a : Addr) : Prop := r.base.toNat ≤ a.toNat ∧ a.toNat < r.base.toNat + r.size

/-- The region of this index decides a request at the address: the counted region of lowest index that holds its first
byte (R69). -/
def DecidingRegion (plan : Plan) (a : Addr) (i : Nat) : Prop :=
  i < plan.regionCount ∧ HoldsByte (regionAt plan i) a ∧ ∀ j < i, ¬ HoldsByte (regionAt plan j) a

/-- The right covers the kind (Table 4-1). -/
def Grants (right : Rights) (kind : Kind) : Prop := right = .readWrite ∨ (right = .read ∧ kind = .read)

/-- The plan can be written: it is EDIT, or READY and not the pending swap target (Table 1-4). -/
def Writable (s : State) (n : PlanName) : Prop :=
  (s.plans.get n).state = .edit ∨ ((s.plans.get n).state = .ready ∧ s.sched.pendingSwap ≠ some n)

/-- The code and the plan operand of the six plan writes (R10). -/
def writeTarget : Instr → Option (Byte × Byte)
  | .writeWindow plan _ _ _ _ => some (0x10, plan)
  | .setWindowCount plan _ => some (0x11, plan)
  | .writeRegion plan _ _ _ _ _ => some (0x12, plan)
  | .setRegionCount plan _ => some (0x13, plan)
  | .writePortSettings plan _ _ _ => some (0x14, plan)
  | .writeCosts plan _ _ => some (0x15, plan)
  | _ => none

/-- The commands that R31 says do not reach the gate state, with the commands that only read (R161, R174, R183, R187, R188). -/
def leavesTheGate : Instr → Bool
  | .writeWindow _ _ _ _ _ | .setWindowCount _ _ | .writeRegion _ _ _ _ _ _ | .setRegionCount _ _
  | .writePortSettings _ _ _ _ | .writeCosts _ _ _ | .copyPlan | .checkPlan _ | .checkCompletion | .setSync _ _ _
  | .setAlerts _ | .takeEvents _ | .readFault _ _ | .readSync _ | .readRecoveryReport | .readPlanItem _ _ _ | .status => true
  | _ => false

/-- The two spans share a byte (R93). -/
def ShareByte (a : Addr) (aBeats : Nat) (b : Addr) (bBeats : Nat) : Prop :=
  ∃ x, a.toNat ≤ x ∧ x < a.toNat + 8 * aBeats ∧ b.toNat ≤ x ∧ x < b.toNat + 8 * bBeats

/-- The head of a port's queue is eligible (R91, R94). -/
def HeadMayIssue (s : State) (p : Port) (h : Held) : Prop :=
  (s.ports.get p).queue.head? = some h ∧ s.mem.issueList.length < 16
    ∧ (∀ e ∈ s.posted, e.port = p → ¬ ShareByte e.addr e.beats h.addr h.beats)
    ∧ match s.sched.gate with
      | .running | .halting =>
        openTo (currentWindow s) p = true
          ∧ (governing s).overhead + h.beats * (governing s).beatCost ≤ (currentWindow s).length - s.sched.offset
      | .stopped | .armed => p = .p0
      | .faulted => False

/-- The entry is eligible in the gate state and window (R112, R113). -/
def EntryMayRetire (s : State) (e : PostedEntry) : Prop :=
  match s.sched.gate with
  | .stopped | .armed => True
  | .running | .halting =>
    if e.plan ≠ none ∧ e.plan = activePlan s then
      (openTo (currentWindow s) e.port = true ∨ (currentWindow s).drain = true)
        ∧ (governing s).overhead + e.beats * (governing s).beatCost ≤ (currentWindow s).length - s.sched.offset
    else (currentWindow s).openSet ≠ 0 ∨ (currentWindow s).drain = true
  | .faulted => False

/-- The entry at a place of the buffer meets the four conditions of R111. -/
def RetireMayIssue (s : State) (e : PostedEntry) (i : Nat) : Prop :=
  s.posted[i]? = some e ∧ e.state = .waiting ∧ s.mem.issueList.length < 16
    ∧ (∀ o ∈ s.posted.take i, o.port = e.port → o.state ≠ .waiting) ∧ EntryMayRetire s e

/-- A contender is eligible (Table 7-1). -/
def MayIssue (s : State) : Contender → Prop
  | .port p => ∃ h ∈ (s.ports.get p).queue.head?, HeadMayIssue s p h
  | .retire => ∃ i < s.posted.length, ∃ e ∈ s.posted[i]?, RetireMayIssue s e i

/-- The place of a contender in the cyclic order P0, P1, P2, P3, RETIRE (R123). -/
def contenderIndex : Contender → Nat
  | .port .p0 => 0
  | .port .p1 => 1
  | .port .p2 => 2
  | .port .p3 => 3
  | .retire => 4

/-- How many contenders the arbiter looks at before this one, starting after the last winner (R125). -/
def turn (last c : Contender) : Nat := (contenderIndex c + 4 - contenderIndex last) % 5

/-- The contender is the first eligible one that the arbiter meets (R125). -/
def Wins (s : State) (c : Contender) : Prop :=
  MayIssue s c ∧ ∀ d, MayIssue s d → turn s.lastWinner c ≤ turn s.lastWinner d

/-- The lowest issue tag that no entry holds (R126). -/
def LowestFree (l : List IssueEntry) (t : IssueTag) : Prop :=
  (∀ e ∈ l, e.issueTag ≠ t) ∧ ∀ u < t, ∃ e ∈ l, e.issueTag = u

end Sys2Proof.Machine
end

