-- ==== Sys2Proof/Certificates/Slice0/Obligations.lean ====
section
/-! DEFINITION. The statements for the provers. Each says in its docstring which rule of the manual it formalises, and
which log entry where it rests on a choice of the model. A statement that gives the next state as a record update says by
it that everything it does not name is unchanged. Four choices of the model run through them: a management command
stands for the last byte of its frame (log entry 6), the events that fall due at a gate tick are commands of their own
(log entry 4), an IN_FLIGHT posted entry keeps the issue tag of its issue (log entry 9), and the level of an input comes
with the command that samples it (log entry 11). -/

section
open Sys2Proof Sys2Proof.Machine

/-! ### The step, the state after reset, and the resets -/

/-- A step runs the command at the front of the queue on the state with the queue's rest. Every command completes: no
command ends in a fault or a refusal, whatever the state and the operands. The queue of commands is the model's choice,
not the manual's (log entry 1). -/
def Obligations.StepTakesTheFront : Prop :=
  (∀ (c : Instr) (rest : List Instr) (s : State),
     step { s with pending := c :: rest } = exec c { s with pending := rest })
    ∧ (∀ (c : Instr) (s : State), ∃ t, exec c s = .next t)

/-- The values after power-on reset that Tables 1-2, 2-1, 5-3, 6-3, 7-3, 8-2 and 11-6 and R60, R123, R153, R155, R164,
R168, R169, R171, R176 and R180 give. The levels of the input pins are the model's choice (log entry 2) and are not
stated. -/
def Obligations.ResetStateIsTheManuals : Prop :=
  let s := State.reset
  s.plans = ⟨Plan.powerOn, Plan.powerOn⟩ ∧ s.check = none
    ∧ Plan.powerOn.windowCount = 0 ∧ Plan.powerOn.windows.toList = List.replicate 32 ⟨0, 0, false⟩
    ∧ Plan.powerOn.regionCount = 0
    ∧ Plan.powerOn.regions.toList = List.replicate 16 ⟨0, 0, ⟨.none, .none, .none, .none⟩, false⟩
    ∧ Plan.powerOn.settings = ⟨⟨0, 0⟩, ⟨0, 0⟩, ⟨0, 0⟩, ⟨0, 0⟩⟩
    ∧ Plan.powerOn.overhead = 0 ∧ Plan.powerOn.beatCost = 1
    ∧ Plan.powerOn.derived = ⟨⟨0, 0, 0, 0⟩, ⟨0, 0, 0, 0⟩, 0⟩
    ∧ Plan.powerOn.report = .none ∧ Plan.powerOn.state = .edit
    ∧ s.sched = ⟨.stopped, 0, 0, 0, none, false, false, 0, false, false⟩
    ∧ (∀ p, (s.ports.get p).tags = [] ∧ (s.ports.get p).queue = [])
    ∧ s.posted = [] ∧ s.lastWinner = .retire
    ∧ s.mem.state = .ready ∧ s.mem.issueList = [] ∧ s.mem.recovery = .idle ∧ s.mem.report = ⟨none, none, 0, 0, .none⟩
    ∧ s.mem.memrst = false
    ∧ s.sync.mode = .off ∧ s.sync.edge = .rising ∧ s.sync.limit = 0 ∧ s.sync.capture = ⟨false, .none, none⟩
    ∧ s.events = ⟨0, 0, false, ⟨⟨none, 0⟩, ⟨none, 0⟩, ⟨none, 0⟩, ⟨none, 0⟩⟩⟩
    ∧ s.link.phase = .idle ∧ s.link.lastResult = .done ∧ s.link.lastCode = 0x00 ∧ s.link.resetting = false
    ∧ s.device = ⟨1, 4096, 16, true⟩

/-- Every law of Safety.lean holds in the state after power-on reset. -/
def Obligations.ResetStateIsLawful : Prop := Lawful State.reset

/-- POR and RST set every block to its reset values and discard all traffic without a response; RST keeps both plans'
contents and derived values, in EDIT with report NONE (R8, R28, R60, R101, R119, R129). The levels of the input pins and
the queue of waiting commands stay, and the link's data output is 0xFF (log entry 2). The release brings the part out,
with the tick's count at 0 (R26). That the part stays in reset until then is log entry 3. -/
def Obligations.PinResetsClearThePart : Prop :=
  (∀ s : State, exec .por s = .next { State.reset with
      ports := perPort (fun p => ⟨[], [], (s.ports.get p).linkReset⟩)
      mem := { State.reset.mem with memrdy := s.mem.memrdy }
      sync := { State.reset.sync with level := s.sync.level }
      link := { State.reset.link with selected := s.link.selected }
      inReset := true, pending := s.pending })
    ∧ (∀ s : State, exec .rst s = .next { State.reset with
      plans := ⟨{ s.plans.a with state := .edit, report := .none }, { s.plans.b with state := .edit, report := .none }⟩
      ports := perPort (fun p => ⟨[], [], (s.ports.get p).linkReset⟩)
      mem := { State.reset.mem with memrdy := s.mem.memrdy }
      sync := { State.reset.sync with level := s.sync.level }
      link := { State.reset.link with selected := s.link.selected }
      inReset := true, pending := s.pending })
    ∧ (∀ s : State, s.inReset = true →
        exec .resetRelease s = .next { s with inReset := false, ticked := 0, out := Outputs.none })

/-- From POR or RST to the release no event reaches the part: a command moves at most the level of its input pin, and with
no command waiting no tick comes (R26, R65, R154; that requests, frames and memory responses are not taken in reset either
is log entry 3). -/
def Obligations.CommandsInResetMoveOnlyPins : Prop :=
  ∀ s : State, s.inReset = true →
    let still : State := { s with out := Outputs.none }
    (∀ p, exec (.linkReset p) s = .next { still with ports := s.ports.set p { s.ports.get p with linkReset := true } })
    ∧ (∀ p, exec (.linkResetRelease p) s
        = .next { still with ports := s.ports.set p { s.ports.get p with linkReset := false } })
    ∧ (∀ e, exec (.syncEdge e) s = .next { still with sync := { s.sync with level := decide (e = .rising) } })
    ∧ exec .memrdyAsserted s = .next { still with mem := { s.mem with memrdy := true } }
    ∧ exec .chipSelectFall s = .next { still with link := { s.link with selected := true } }
    ∧ (∀ edges, exec (.chipSelectRise edges) s = .next { still with link := { s.link with selected := false } })
    ∧ (∀ c : Instr, (∀ p, c ≠ .linkReset p ∧ c ≠ .linkResetRelease p) → (∀ e, c ≠ .syncEdge e) → c ≠ .memrdyAsserted →
        c ≠ .chipSelectFall → (∀ edges, c ≠ .chipSelectRise edges) → c ≠ .por → c ≠ .rst → c ≠ .resetRelease →
        exec c s = .next still)
    ∧ (s.pending = [] → step s = .next still)

/-- The assertion of a port's LRSTn out of reset: queue and tags emptied without a response, its issue-list entries
orphan, PORT_RESET raised, and nothing else changed (R65). Its release changes nothing else (R67). -/
def Obligations.LinkResetForgetsThePort : Prop :=
  (∀ (p : Port) (s : State), s.inReset = false → (s.ports.get p).linkReset = false →
      exec (.linkReset p) s = .next { s with
        ports := s.ports.set p ⟨[], [], true⟩
        mem := { s.mem with issueList := s.mem.issueList.map (fun e => match e.source with
          | .port q _ => if q = p then { e with orphan := true } else e
          | .posted => e) }
        events := eventsWith 0x400 s.events
        out := Outputs.none })
    ∧ (∀ (p : Port) (s : State), exec (.linkResetRelease p) s = .next { s with
        ports := s.ports.set p { s.ports.get p with linkReset := false }, out := Outputs.none })

/-! ### Frames and the link -/

/-- The worked examples of R177: the CRC of 0x01, the frames of STATUS, HALT and START IMMEDIATE, and a response DONE
with no data. R177: the CRC is the remainder of the message, most significant bit first and followed by eight zero
bits, on division by x^8 + x^2 + x + 1. The register holds the last eight bits of the division; a bit that leaves it
at the top subtracts the polynomial. -/
def Obligations.CrcIsTheRemainder : Prop :=
  (crc8 [0x01] = 0x07 ∧ crc8 [0x23] = 0xE9 ∧ crc8 [0x22, 0x00] = 0x84 ∧ responseOf .done [] = [0x00, 0x00])
    ∧ (∀ bytes : List Byte,
       crc8 bytes = ((bytes ++ [0x00]).flatMap (fun (b : Byte) => [b.getLsbD 7, b.getLsbD 6, b.getLsbD 5, b.getLsbD 4, b.getLsbD 3,
           b.getLsbD 2, b.getLsbD 1, b.getLsbD 0])).foldl
         (fun (r : Byte) (bit : Bool) => (r <<< 1 ||| (if bit then 0x01#8 else 0x00#8)) ^^^ (if r.getLsbD 7 then 0x07#8 else 0x00#8)) 0x00#8)

/-- Tables 11-2 and 11-3: a management command has one frame, of its code and operand bytes, and the frame says the
command and every operand again; a frame names at most one command. -/
def Obligations.FramesAndCommandsAgree : Prop :=
  (∀ (c : Instr) (frame : List Byte), encodeFrame c = some frame → decodeFrame frame = some c)
    ∧ (∀ (frame : List Byte) (c : Instr), decodeFrame frame = some c → encodeFrame c = some frame)
    ∧ (∀ (frame : List Byte), (∃ c, decodeFrame frame = some c) ↔
        ∃ code operands row, frame = code :: operands ∧ commandRow code = some row ∧ operands.length = row.operands)

/-- A management command and its frame clocked byte by byte after a fall of chip-select do the same (R176, R178): as many
LINK_BYTE commands as the frame and its CRC byte have bytes leave what the command leaves. That the command stands for
its frame's CRC byte is log entry 6. -/
def Obligations.BytesMakeTheCommand : Prop :=
  ∀ (c : Instr) (frame : List Byte) (s : State), encodeFrame c = some frame → s.inReset = false →
    s.link.phase = .command → s.link.selected = true → s.link.frame = [] → s.link.response = [] →
    Host.Core.run Sys2Proof.core (frame.length + 1)
        { s with pending := (frame ++ [crc8 frame]).map Instr.linkByte ++ s.pending }
      = exec c s

/-- A fall of chip-select enters COMMAND with no byte received; a rise returns the link to IDLE, and in COMMAND with a
clock edge received the frame is truncated: TRUNCATED with its code byte if complete, and LINK_ERROR (R176, R179). One
byte clocked on the link (R176): in COMMAND it joins the frame; the byte after a complete frame is its CRC byte, and
one that does not match answers BAD_CRC, and one that matches a code not in Table 11-2 answers UNKNOWN without an event
(R178); in RESPONSE the next response byte is given, the last one entering
TRAIL; in TRAIL the output reads 0xFF; in IDLE there is no transaction. -/
def Obligations.LinkFollowsItsTransactionState : Prop :=
  ((∀ s : State, s.inReset = false → s.link.selected = false → exec .chipSelectFall s = .next { s with
       link := { s.link with selected := true, phase := .command, frame := [], response := [], dataOut := 0xFF }
       out := Outputs.none })
     ∧ (∀ (edges : Fin 8) (s : State), s.inReset = false → s.link.selected = true →
         (s.link.phase ≠ .command ∨ (s.link.frame = [] ∧ edges = 0)) →
         exec (.chipSelectRise edges) s = .next { s with
           link := { s.link with selected := false, phase := .idle, frame := [], response := [] }
           out := Outputs.none })
     ∧ (∀ (edges : Fin 8) (s : State), s.inReset = false → s.link.selected = true → s.link.phase = .command →
         (s.link.frame ≠ [] ∨ edges ≠ 0) →
         exec (.chipSelectRise edges) s = .next { s with
           link := { s.link with
             selected := false, phase := .idle, frame := [], response := [], lastResult := .truncated
             lastCode := s.link.frame.headD 0x00 }
           events := eventsWith 0x800 s.events
           out := Outputs.none }))
    ∧ (∀ (b : Byte) (s : State), s.inReset = false →
       (s.link.phase = .command → frameComplete s.link.frame = false →
         exec (.linkByte b) s = .next { s with
           link := { s.link with frame := s.link.frame ++ [b], dataOut := 0xFF }, out := Outputs.none })
       ∧ (s.link.phase = .command → s.link.selected = true → frameComplete s.link.frame = true → crc8 s.link.frame ≠ b →
         exec (.linkByte b) s = .next (answered (s.link.frame.headD 0x00) .badCrc []
           { s with events := eventsWith 0x800 s.events, out := Outputs.none }))
       ∧ (∀ code : Byte, s.link.phase = .command → s.link.selected = true → s.link.frame = [code] →
         commandRow code = none → crc8 [code] = b →
         exec (.linkByte b) s = .next (answered code .unknown [] { s with out := Outputs.none }))
       ∧ (∀ r rest, s.link.phase = .response → s.link.response = r :: rest →
         exec (.linkByte b) s = .next { s with
           link := { s.link with dataOut := r, response := rest, phase := if rest = [] then .trail else .response }
           out := Outputs.none })
       ∧ (s.link.phase = .trail → exec (.linkByte b) s = .next { s with
           link := { s.link with dataOut := 0xFF }, out := Outputs.none })
       ∧ (s.link.phase = .idle → exec (.linkByte b) s = .next { s with out := Outputs.none }))

/-- The first two paths of R178: a CRC byte that does not match a complete frame answers BAD_CRC with LINK_ERROR; a code
not in Table 11-2 answers UNKNOWN without an event; nothing else changes. -/
def Obligations.BadFramesCarryOutNothing : Prop :=
  (∀ (code : Byte) (operands : List Byte) (crc : Byte) (s : State), s.inReset = false →
      operands.length = operandLength code → crc8 (code :: operands) ≠ crc →
      (s.link.phase = .command → s.link.frame <+: code :: operands) →
      exec (.badCrc (code :: operands) crc) s = .next (answered code .badCrc []
        { s with events := eventsWith 0x800 s.events, out := Outputs.none }))
    ∧ (∀ (code : Byte) (s : State), s.inReset = false → commandRow code = none →
      (s.link.phase = .command → s.link.frame <+: [code]) →
      exec (.unknown code) s = .next (answered code .unknown [] { s with out := Outputs.none }))

/-- R181: while RESET GATE is in progress every taken command other than STATUS is refused BUSY and changes nothing but
the link's answer and the last-command result. -/
def Obligations.ResetGateMakesCommandsBusy : Prop :=
  ∀ (c : Instr) (code : Byte) (operands : List Byte) (s : State), encodeFrame c = some (code :: operands) → c ≠ .status →
    Sendable c s → s.link.resetting = true →
    exec c s = .next (answered code .busy (List.replicate (dataLength code) 0x00) { s with out := Outputs.none })

/-! ### Laws that every step keeps -/

/-- R63 is kept by every step. -/
def Obligations.StepKeepsTheTagLaw : Prop := ∀ s t : State, TagLaw s → step s = .next t → TagLaw t

/-- The sizes of the hold queues, the posted-write buffer and the issue list, the distinct issue tags and the match of
IN_FLIGHT entries with POSTED entries are kept by every step (R80, R104, R128, R136, R115 to R118). The tag by which the
entries match is log entry 9. -/
def Obligations.StepKeepsTheBufferLaw : Prop := ∀ s t : State, BufferLaw s → step s = .next t → BufferLaw t

/-- R139 and what goes with it are kept by every step. -/
def Obligations.StepKeepsTheGateLaw : Prop := ∀ s t : State, GateLaw s → step s = .next t → GateLaw t

/-- The law of the plan store is kept by every step: at most one plan ACTIVE, a pending swap's target READY (R25), and
every READY or ACTIVE plan one that CHECK passes, with the derived values and warnings that describe it (R6, R19 to
R21). -/
def Obligations.StepKeepsThePlanLaw : Prop := ∀ s t : State, GateLaw s → PlanLaw s → step s = .next t → PlanLaw t

/-- The position law R48, with the OPEN lines (R44), the pending halt and the START mode (R32), is kept by every step. -/
def Obligations.StepKeepsTheScheduleLaw : Prop :=
  ∀ s t : State, GateLaw s → PlanLaw s → ScheduleLaw s → step s = .next t → ScheduleLaw t

/-- In RUNNING and HALTING every held request stays one that the active plan admits and has costed, whatever step is
taken (R77, R79, R88). Every posted entry that names a posting plan was posted under the plan that is still ACTIVE,
and fits a window it can retire in (R107, R110, R112). -/
def Obligations.StepKeepsTheTrafficLaws : Prop :=
  (∀ s t : State, GateLaw s → PlanLaw s → HeldLaw s → step s = .next t → HeldLaw t)
    ∧ (∀ s t : State, GateLaw s → PlanLaw s → PostingLaw s → step s = .next t → PostingLaw t)

/-- The ranges of the manual's tables are kept by every step. -/
def Obligations.StepKeepsTheRanges : Prop := ∀ s t : State, Lawful s → step s = .next t → RangeLaw t

/-- R170 is kept by every step. -/
def Obligations.StepKeepsTheAlertLaw : Prop := ∀ s t : State, AlertLaw s → step s = .next t → AlertLaw t

/-- The transaction state stays one of R176's. -/
def Obligations.StepKeepsTheLinkLaw : Prop := ∀ s t : State, LinkLaw s → step s = .next t → LinkLaw t

/-! ### Laws of the whole part -/

/-- Nothing but a grant presents an access to the memory or adds to the issue list (R126, R128). -/
def Obligations.OnlyAGrantIssues : Prop :=
  ∀ (c : Instr) (s t : State), (∀ r, c ≠ .grant r) → exec c s = .next t →
    t.out.issues = [] ∧ t.mem.issueList.length ≤ s.mem.issueList.length

/-- R103: no held request is issued while a posted entry of the same port shares a byte with it. -/
def Obligations.NothingIssuedOverAPostedWrite : Prop :=
  ∀ (s t : State) (e : IssueEntry) (p : Port) (tag : Tag), step s = .next t →
    t.mem.issueList = s.mem.issueList ++ [e] → e.source = .port p tag →
    ∀ o ∈ s.posted, o.port = p → ¬ ShareByte o.addr o.beats e.addr e.beats

/-- R137: in RUNNING and HALTING a held request is issued only in a window open to its port with its cost fitting, and a
posted entry only in a window open to its port or with drain=yes with its cost fitting, unless it is carried. The posted
entry that is issued is the one that becomes IN_FLIGHT with the issue's tag; that it keeps that tag is the model's choice
(log entry 9). -/
def Obligations.IssuesFitTheirWindow : Prop :=
  ∀ (s t : State) (e : IssueEntry), Lawful s → step s = .next t → t.mem.issueList = s.mem.issueList ++ [e] →
    walking s = true →
    (∀ p tag, e.source = .port p tag → openTo (currentWindow s) p = true
      ∧ (governing s).overhead + e.beats * (governing s).beatCost ≤ (currentWindow s).length - s.sched.offset)
    ∧ (e.source = .posted → ∃ older o younger, s.posted = older ++ o :: younger ∧ o.state = .waiting
      ∧ t.posted = older ++ { o with state := .inFlight e.issueTag } :: younger ∧ o.addr = e.addr ∧ o.beats = e.beats
      ∧ ((openTo (currentWindow s) o.port = true ∨ (currentWindow s).drain = true)
          ∧ (governing s).overhead + e.beats * (governing s).beatCost ≤ (currentWindow s).length - s.sched.offset
        ∨ o.plan ≠ activePlan s ∨ o.plan = none))

/-- R138: nothing is issued in FAULTED, and no request of P1, P2 or P3 in STOPPED or ARMED. -/
def Obligations.NothingIssuedByAStoppedGate : Prop :=
  ∀ (s t : State) (e : IssueEntry), GateLaw s → step s = .next t → t.mem.issueList = s.mem.issueList ++ [e] →
    s.sched.gate ≠ .faulted
      ∧ (s.sched.gate = .stopped ∨ s.sched.gate = .armed → ∀ p tag, e.source = .port p tag → p = .p0)

/-- R79: every request issued from a hold queue in RUNNING or HALTING lies within one region of the active plan that
grants its port the right its kind needs. -/
def Obligations.IssuesLieInARegion : Prop :=
  ∀ (s t : State) (e : IssueEntry) (p : Port) (tag : Tag), Lawful s → step s = .next t →
    t.mem.issueList = s.mem.issueList ++ [e] → e.source = .port p tag → walking s = true →
    InRegion (governing s) p e.kind e.addr e.beats

/-- R25: after every step at most one plan is ACTIVE and a pending swap's target is READY, and the active plan's contents,
derived values and report do not change while it is active. -/
def Obligations.ActivePlanIsFixed : Prop :=
  ∀ (s t : State), GateLaw s → PlanLaw s → step s = .next t →
    ¬(t.plans.a.state = .active ∧ t.plans.b.state = .active)
    ∧ (∀ n, t.sched.pendingSwap = some n → (t.plans.get n).state = .ready)
    ∧ (∀ n, (s.plans.get n).state = .active → (t.plans.get n).state = .active → t.plans.get n = s.plans.get n)

/-- R31 and R130: these commands leave the gate state, the position, the pending items and the issue list as they are:
plan writes, COPY PLAN, CHECK PLAN, SET SYNC, SET ALERTS, TAKE EVENTS and the reading commands, and a check completion. -/
def Obligations.ConfigurationLeavesTheGate : Prop :=
  ∀ (c : Instr) (s t : State), leavesTheGate c = true → exec c s = .next t →
    t.sched = s.sched ∧ t.mem = s.mem ∧ t.ports = s.ports ∧ t.posted = s.posted ∧ t.lastWinner = s.lastWinner
      ∧ t.device = s.device ∧ t.out = Outputs.none

/-- R61 and R64: a response other than PROTOCOL leaves its tag outside the outstanding-tag set, no two of one event carry
one tag, and a tag leaves the set only with a response to it, with the link reset of its port, or at POR or RST. -/
def Obligations.ResponsesFreeTheirTags : Prop :=
  ∀ (c : Instr) (s t : State) (p : Port), Lawful s → exec c s = .next t →
    (∀ r ∈ t.out.responses.get p, r.status ≠ .protocol → r.tag ∉ (t.ports.get p).tags)
    ∧ ((t.out.responses.get p).map (·.tag)).Nodup
    ∧ (∀ tag ∈ (s.ports.get p).tags, tag ∉ (t.ports.get p).tags →
        (∃ r ∈ t.out.responses.get p, r.tag = tag) ∨ c = .linkReset p ∨ c = .por ∨ c = .rst)

/-- R122: a posted write leaves the buffer with an OK of the memory to its issue, or as lost with POSTED_LOST raised and a
fault taken into its port's record, or at POR or RST. -/
def Obligations.LostWritesAreReported : Prop :=
  ∀ (c : Instr) (s t : State) (e : PostedEntry), Lawful s → exec c s = .next t →
    s.posted.countP (fun o => decide ((o.port, o.tag, o.addr, o.beats, o.data) = (e.port, e.tag, e.addr, e.beats, e.data)))
      > t.posted.countP (fun o => decide ((o.port, o.tag, o.addr, o.beats, o.data) = (e.port, e.tag, e.addr, e.beats, e.data))) →
    c = .por ∨ c = .rst
      ∨ (∃ m h, c = .memoryResponse m ∧ m.ok = true ∧ s.mem.issueList.head? = some h ∧ h.source = .posted
          ∧ m.tag = h.issueTag ∧ h.addr = e.addr ∧ h.beats = e.beats)
      ∨ (t.events.set.getLsbD 1 = true ∧ (t.events.faults.get e.port).first ≠ none
          ∧ ((s.events.faults.get e.port).first = none
            ∨ (s.events.faults.get e.port).later < (t.events.faults.get e.port).later
            ∨ (t.events.faults.get e.port).later = 255))

/-- R102: a hold queue holds at most 8 requests and keeps its order. After a command a port's queue is the queue before,
some requests gone, with at most one joined at the tail; and a request of the port that is issued was its head. -/
def Obligations.HoldQueuesKeepTheirOrder : Prop :=
  ∀ (c : Instr) (s t : State) (p : Port), BufferLaw s → exec c s = .next t →
    (t.ports.get p).queue.length ≤ 8
    ∧ (∃ joined : List (Tag × Kind × Addr × Nat × List Beat), joined.length ≤ 1
      ∧ List.Sublist ((t.ports.get p).queue.map (fun h => (h.tag, h.kind, h.addr, h.beats, h.data)))
          ((s.ports.get p).queue.map (fun h => (h.tag, h.kind, h.addr, h.beats, h.data)) ++ joined))
    ∧ (∀ (e : IssueEntry) (tag : Tag), t.mem.issueList = s.mem.issueList ++ [e] → e.source = .port p tag →
        ∃ h rest, (s.ports.get p).queue = h :: rest ∧ (t.ports.get p).queue = rest
          ∧ tag = h.tag ∧ e.kind = h.kind ∧ e.addr = h.addr ∧ e.beats = h.beats)

/-- R121: the buffer holds at most 16 entries, and the entries of one port are issued in the order they were posted: an entry
that a step makes IN_FLIGHT has no older WAITING entry of its port, and the buffer keeps its order; an entry is added at
the tail alone. -/
def Obligations.PostedWritesKeepTheirOrder : Prop :=
  ∀ (s t : State), BufferLaw s → step s = .next t →
    t.posted.length ≤ 16
    ∧ (∃ posted : List (Port × Tag × Addr × Nat), posted.length ≤ 1
      ∧ List.Sublist (t.posted.map (fun o => (o.port, o.tag, o.addr, o.beats)))
          (s.posted.map (fun o => (o.port, o.tag, o.addr, o.beats)) ++ posted))
    ∧ ∀ e, t.mem.issueList = s.mem.issueList ++ [e] → e.source = .posted →
      ∃ older o younger, s.posted = older ++ o :: younger ∧ o.state = .waiting
      ∧ (∀ w ∈ older, w.port = o.port → w.state ≠ .waiting)
      ∧ e.addr = o.addr ∧ e.beats = o.beats
      ∧ ∃ tag, t.posted = older ++ { o with state := .inFlight tag } :: younger

/-! ### The gate tick and what falls due at it -/

/-- A gate tick that finds nothing still due: the offset grows, unless the window expires at the tick, which then waits for
WINDOW_EXPIRY; a FRAME pulse ends; every deadline falls by 1 and every age rises by 1 up to 65535; the recovery pulse or
ready wait has one tick less; the check makes its visit; the reset step falls due if the drain has ended (R26, R29, R44,
R84, R128, R149, R151, R190). One that finds events still due first takes each of them, in the table's order, so that
none is lost (the split of a tick is log entry 4). With no command waiting, what is still due is taken; else cycles of the
reference clock are counted up to the divider, and at the divider a gate tick comes, at which all that falls due at it is
taken (R26, R27, R29; log entry 10). A recovery pulse that ends so finds MEMRDY at the level last given, which is the
model's choice (log entry 11). -/
def Obligations.GateTickAdvancesTheCounts : Prop :=
  (∀ s : State, s.inReset = false → NothingDue s → exec .gateTick s = .next (tickedFrom { s with out := Outputs.none }))
    ∧ (∀ s : State, s.inReset = false → Lawful s →
        NothingDue (dueTaken s) ∧ exec .gateTick s = .next (tickedFrom (dueTaken s)))
    ∧ (∀ s : State, s.pending = [] → s.inReset = false → Lawful s → ¬ NothingDue s → step s = .next (dueTaken s))
    ∧ (∀ s : State, s.pending = [] → s.inReset = false → NothingDue s → s.ticked + 1 < s.device.divider →
        step s = .next { s with ticked := s.ticked + 1, out := Outputs.none })
    ∧ (∀ s : State, s.pending = [] → s.inReset = false → Lawful s → NothingDue s → ¬ s.ticked + 1 < s.device.divider →
        let t := dueTaken (tickedFrom s)
        NothingDue t ∧ step s = .next t)

/-- WINDOW_EXPIRY in RUNNING and HALTING takes what the last tick owes the walk (R29): from the last offset of a window
below the last, the next window with its OPEN lines; from the last offset of the last window, a frame boundary with the
steps of R30. Where a cut or a rewind came before it, the share advances the offset of the window the walk now stands in
(R45, R46). A FRAME pulse ends at that tick (R44). With nothing owed there is nothing to take. That the share is taken by
this command is log entry 4. -/
def Obligations.WindowExpiryMovesTheWalk : Prop :=
  (∀ s : State, s.inReset = false → walking s = true → s.sched.walkOwed = true →
    let out := Outputs.none
    let last := s.sched.offset + 1 = (currentWindow s).length
    (last → s.sched.window + 1 < (governing s).windowCount → exec .windowExpiry s = .next { s with
        sched := { s.sched with
          window := s.sched.window + 1, offset := 0, walkOwed := false, frameLine := false
          openLines := (windowAt (governing s) (s.sched.window + 1)).openSet }
        out := out })
    ∧ (last → s.sched.window + 1 = (governing s).windowCount → exec .windowExpiry s = .next (boundaryFrom { s with
        sched := { s.sched with walkOwed := false, frameLine := false }, out := out }))
    ∧ (¬ last → exec .windowExpiry s = .next { s with
        sched := { s.sched with offset := s.sched.offset + 1, walkOwed := false, frameLine := false }, out := out }))
    ∧ (∀ s : State, s.inReset = false → s.sched.walkOwed = false →
        exec .windowExpiry s = .next { s with out := Outputs.none })

/-- HOLD_LIMIT_EXPIRY answers LATE to the first request of the port whose deadline reached 0, removes it at whatever place
it stands, frees its tag and hands the LATE fault; the others keep their order (R84). A deadline of 0 that waits for this
command is log entry 4. -/
def Obligations.HoldLimitExpiryAnswersLate : Prop :=
  ∀ (p : Port) (s : State) (before after : List Held) (h : Held), s.inReset = false →
    (s.ports.get p).queue = before ++ h :: after → (∀ x ∈ before, x.deadline ≠ some 0) → h.deadline = some 0 →
    exec (.holdLimitExpiry p) s = .next { s with
      ports := s.ports.set p { s.ports.get p with
        queue := before ++ after, tags := tagsWithout (s.ports.get p).tags [h.tag] }
      events := faultsTaken (faultsOf p [faultNow s .late h.tag h.kind h.addr h.beats]) s.events
      out := { Outputs.none with responses := Outputs.none.responses.set p [refusalTo .late h.tag] } }

/-- R19 and R20: an accepted check is found complete at the n-th tick, n the visits plus 1, and not before; its outcome is
the first failure of Table 1-5, and the values built are those of the windows below the first unwritten one. -/
def Obligations.CheckTakesItsTicks : Prop :=
  ∀ (n : PlanName) (p : Plan) (k : Nat),
    let run := (tickCheckRun p)^[k] ⟨n, firstPoint p, ⟨⟨0, 0, 0, 0⟩, ⟨0, 0, 0, 0⟩, 0⟩, false⟩
    (run.due = true ↔ visits p + 1 ≤ k)
      ∧ (visits p ≤ k → run.point = .finish (finding p) ∧ run.built = derivedOf (foldedWindows p) ∧ run.plan = n)

/-- R21: at the completion that the last tick made due, the plan becomes READY with the warnings, or EDIT with the failure;
the values built replace its derived values; no check is in progress; CHECK_DONE is raised; nothing else changes. That
the completion is a command after its tick is log entry 4. -/
def Obligations.CheckCompletionWritesTheReport : Prop :=
  ∀ (s : State) (n : PlanName) (f : Option CheckFailure) (d : Derived), s.inReset = false → PlanLaw s →
    s.check = some ⟨n, .finish f, d, true⟩ →
    exec .checkCompletion s = .next { s with
      plans := s.plans.set n { s.plans.get n with
        state := if f = none then .ready else .edit
        derived := derivedOf (foldedWindows (s.plans.get n))
        report := match f with
          | none => passedReport (s.plans.get n)
          | some x => .failed x }
      check := none
      events := eventsWith 0x010 s.events
      out := Outputs.none }

/-- A TIMEOUT (R141) and an ORDER failure (R142) take the seven steps of R143: IN_FLIGHT entries lost, issued requests and
then held requests answered MEMFAULT on each port, the list emptied, the report written, MEMORY_FAILED raised, the gate
FAULTED, and RESET GATE abandoned (R118, R40, R99, R144, R191). -/
def Obligations.MemoryFailureTakesItsSteps : Prop :=
  (∀ (s : State) (e : IssueEntry) (rest : List IssueEntry), s.inReset = false → s.mem.state = .ready →
      s.mem.issueList = e :: rest → 1 ≤ s.device.limit → s.device.limit ≤ e.age →
      exec .timeout s = .next (failedFrom .timeout { s with out := Outputs.none }))
    ∧ (∀ (s : State) (m : MemResponse), s.inReset = false → s.mem.state = .ready →
      (∀ e, s.mem.issueList.head? = some e → m.tag ≠ e.issueTag) →
      exec (.memoryResponse m) s = .next (failedFrom .order { s with out := Outputs.none }))

/-- R131 to R134: in READY a response with the issue tag of the oldest entry completes it. A request answered OK gives OKAY
with the beats of a READ, and one answered ERROR, or OK with too few beats, gives MEMFAULT with a MEM_ERROR fault; either
frees the tag. An orphan is consumed. A posted entry is freed, and with ERROR it is lost with POSTED_LOST and a
POSTED_FAILED fault; that it is the entry IN_FLIGHT under the response's issue tag is the model's choice (log entry 9). Where the entry that becomes the oldest is at or above the response limit, the memory port fails with
TIMEOUT at the completion, after it has been handed on (R141, R143). In FAILED and RESETTING a response is ignored (R145). -/
def Obligations.ResponsesCompleteTheOldestEntry : Prop :=
  (∀ (s : State) (e : IssueEntry) (rest : List IssueEntry) (m : MemResponse), s.inReset = false → s.mem.state = .ready →
      s.mem.issueList = e :: rest → m.tag = e.issueTag →
      let late := s.device.limit ≠ 0 ∧ ∃ x ∈ rest.head?, s.device.limit ≤ x.age
      let completes : State → Prop := fun t =>
        (¬ late → exec (.memoryResponse m) s = .next t)
          ∧ (late → exec (.memoryResponse m) s = .next (failedFrom .timeout t))
      let left : State := { s with mem := { s.mem with issueList := rest }, out := Outputs.none }
      let fine := m.ok = true ∧ (e.kind = .read → e.beats ≤ m.data.length)
      let okay : Tag → Response := fun tag =>
        ⟨tag, .okay, false, if e.kind = .read then some (m.data.take e.beats) else none⟩
      (∀ p tag, e.source = .port p tag → e.orphan = false → fine → completes { left with
          ports := s.ports.set p { s.ports.get p with tags := tagsWithout (s.ports.get p).tags [tag] }
          out := { Outputs.none with responses := Outputs.none.responses.set p [okay tag] } })
      ∧ (∀ p tag, e.source = .port p tag → e.orphan = false → ¬ fine → completes { left with
          ports := s.ports.set p { s.ports.get p with tags := tagsWithout (s.ports.get p).tags [tag] }
          events := faultsTaken (faultsOf p [faultNow s .memError tag e.kind e.addr e.beats]) s.events
          out := { Outputs.none with responses := Outputs.none.responses.set p [refusalTo .memFault tag] } })
      ∧ (∀ p tag, e.source = .port p tag → e.orphan = true → completes left)
      ∧ (∀ before o after, e.source = .posted → e.kind = .write → s.posted = before ++ o :: after →
          o.state = .inFlight e.issueTag → (∀ x ∈ before, x.state ≠ .inFlight e.issueTag) →
          completes { left with
            posted := before ++ after
            events := if m.ok = true then s.events else eventsWith 0x002
              (faultsTaken (faultsOf o.port [faultNow s .postedFailed o.tag .write o.addr o.beats]) s.events) }))
    ∧ (∀ (s : State) (m : MemResponse), s.inReset = false → s.mem.state ≠ .ready →
        exec (.memoryResponse m) s = .next { s with out := Outputs.none })

/-! ### SYNC edges -/

/-- Table 9-1 but for mode ALIGN in RUNNING and HALTING: a selected edge writes the capture record and raises SYNC_CAPTURED;
in ARMED it starts the gate (R34, R35); elsewhere it is OBSERVED, with the position in RUNNING and HALTING alone (R155,
R156). With mode OFF, or in the other direction, no edge is seen (R154). That a change carries its direction is log
entry 7. -/
def Obligations.SelectedEdgeIsCaptured : Prop :=
  ∀ (e : SyncEdge) (s : State), s.inReset = false →
    let capture : Option CapturePosition → SyncOutcome → State := fun position outcome => { s with
      sync := { s.sync with level := decide (e = .rising), capture := ⟨true, outcome, position⟩ }
      events := eventsWith 0x080 s.events
      out := Outputs.none }
    (s.sync.mode ≠ .off → s.sync.edge = e → s.sched.gate = .armed →
      exec (.syncEdge e) s = .next (runningFrom (capture none .started)))
    ∧ (s.sync.mode ≠ .off → s.sync.edge = e → s.sched.gate = .stopped ∨ s.sched.gate = .faulted →
      exec (.syncEdge e) s = .next (capture none .observed))
    ∧ (s.sync.mode = .observe → s.sync.edge = e → s.sched.gate = .running ∨ s.sched.gate = .halting →
      ScheduleLaw s →
      exec (.syncEdge e) s = .next (capture (some ⟨s.sched.frame, s.sched.window, s.sched.offset,
          ((windowsBelow (governing s) s.sched.window).map (·.length)).sum + s.sched.offset,
          (governing s).derived.frameLength⟩) .observed))
    ∧ (s.sync.mode = .off ∨ s.sync.edge ≠ e →
      exec (.syncEdge e) s = .next { s with
        sync := { s.sync with level := decide (e = .rising) }, out := Outputs.none })

/-- R157 with R45, R46, R158 and R159: in RUNNING and HALTING with mode ALIGN, T, L and C decide between IN_STEP, a frame
boundary at once, a rewind to window 0 without a boundary, and OUT_OF_LIMIT with SYNC_LOST. -/
def Obligations.AlignedEdgeCorrectsTheWalk : Prop :=
  ∀ (s : State), s.inReset = false → Lawful s → s.sync.mode = .align → walking s = true →
    let t := ((windowsBelow (governing s) s.sched.window).map (·.length)).sum + s.sched.offset
    let l := ((windowsBelow (governing s) (governing s).windowCount).map (·.length)).sum
    let c := s.sync.limit
    let seen : SyncOutcome → State := fun outcome => { s with
      sync := { s.sync with
        level := decide (s.sync.edge = .rising)
        capture := ⟨true, outcome, some ⟨s.sched.frame, s.sched.window, s.sched.offset, t, l⟩⟩ }
      events := eventsWith 0x080 s.events
      out := Outputs.none }
    (t = 0 → exec (.syncEdge s.sync.edge) s = .next (seen .inStep))
    ∧ (t ≠ 0 → l - t ≤ c → l - t ≤ t → exec (.syncEdge s.sync.edge) s = .next (boundaryFrom (seen .earlyCut)))
    ∧ (t ≠ 0 → ¬ (l - t ≤ c ∧ l - t ≤ t) → t ≤ c → exec (.syncEdge s.sync.edge) s = .next { seen .lateRewind with
        sched := { s.sched with window := 0, offset := 0, openLines := (windowAt (governing s) 0).openSet } })
    ∧ (t ≠ 0 → ¬ (l - t ≤ c ∧ l - t ≤ t) → ¬ t ≤ c → exec (.syncEdge s.sync.edge) s = .next { seen .outOfLimit with
        events := eventsWith 0x180 s.events })

/-! ### Requests -/

/-- A request presented while its port is not ready has no effect (R51, R52). In FAULTED a taken request is answered
MEMFAULT, unchecked and without a fault (R55). In every other state the first bus rule broken answers PROTOCOL with its
fault, and an outstanding request of the same tag is not disturbed (R56). -/
def Obligations.ArrivalRefusedByTheBus : Prop :=
  ∀ (p : Port) (r : Request) (s : State), s.inReset = false → r.wellFormed = true →
    let refused : Status → State := fun status => { s with
      out := { Outputs.none with responses := Outputs.none.responses.set p [refusalTo status r.tag] } }
    let broken : FaultReason → Host.Outcome State Fault Refusal := fun reason => .next { refused .protocol with
      events := faultsTaken (faultsOf p [faultNow s reason r.tag r.kind r.addr r.beats]) s.events }
    (¬ Ready s p → exec (.requestArrival p r) s = .next { s with out := Outputs.none })
    ∧ (Ready s p → s.sched.gate = .faulted → exec (.requestArrival p r) s = .next (refused .memFault))
    ∧ (Ready s p → s.sched.gate ≠ .faulted → r.addr.toNat % 8 ≠ 0 → exec (.requestArrival p r) s = broken .misaligned)
    ∧ (Ready s p → s.sched.gate ≠ .faulted → r.addr.toNat % 8 = 0 → 4096 < r.addr.toNat % 4096 + r.beats * 8 →
        exec (.requestArrival p r) s = broken .boundary)
    ∧ (Ready s p → s.sched.gate ≠ .faulted → r.addr.toNat % 8 = 0 → r.addr.toNat % 4096 + r.beats * 8 ≤ 4096 →
        r.tag ∈ (s.ports.get p).tags → exec (.requestArrival p r) s = broken .tagInUse)

/-- R69 to R73 at acceptance: with no counted region holding the first byte the request is DENIED, NO_REGION; the region of
lowest index that holds it decides alone, and without the right for the kind it is DENIED, RIGHTS; a cost above the longest
window open to the port is TOOLONG, NO_WINDOW when that is 0 and TOO_LONG else. The tag is not recorded and the fault is
handed with the position and the plan of the arrival (R75, R78). -/
def Obligations.ArrivalRefusedByTheChecker : Prop :=
  ∀ (p : Port) (r : Request) (s : State), Lawful s → ReachesTheChecker s p r →
    let refused : Status → FaultReason → Host.Outcome State Fault Refusal := fun status reason => .next { s with
      events := faultsTaken (faultsOf p [faultNow s reason r.tag r.kind r.addr r.beats]) s.events
      out := { Outputs.none with responses := Outputs.none.responses.set p [refusalTo status r.tag] } }
    let cost := (governing s).overhead + r.beats * (governing s).beatCost
    let longest := (governing s).derived.longestOpen.get p
    ((∀ i < (governing s).regionCount, ¬ HoldsByte (regionAt (governing s) i) r.addr) →
      exec (.requestArrival p r) s = refused .denied .noRegion)
    ∧ (∀ i, DecidingRegion (governing s) r.addr i →
      (¬ Grants ((regionAt (governing s) i).rights.get p) r.kind → exec (.requestArrival p r) s = refused .denied .rights)
      ∧ (Grants ((regionAt (governing s) i).rights.get p) r.kind → longest < cost →
        exec (.requestArrival p r) s = refused .tooLong (if longest = 0 then .noWindow else .tooLong)))

/-- R107, R108, R58 and R82: a request that the checker passes is posted if it is a WRITE that meets the six
conditions of the posting decision, with OKAY, posted=yes, and its tag not recorded; every other joins the tail of its
hold queue with its cost and its deadline, and its tag becomes outstanding, without a response. Under boot pass in
STOPPED and ARMED a request of P0 that breaks no bus rule joins the hold queue without a region check, a cost or a
deadline (R43, R57, R76, R82). -/
def Obligations.ArrivalPostedOrHeld : Prop :=
  (∀ (p : Port) (r : Request) (s : State) (i : Nat), Lawful s → ReachesTheChecker s p r →
     DecidingRegion (governing s) r.addr i → Grants ((regionAt (governing s) i).rights.get p) r.kind →
     (governing s).overhead + r.beats * (governing s).beatCost ≤ (governing s).derived.longestOpen.get p →
     let cost := (governing s).overhead + r.beats * (governing s).beatCost
     let hold := ((governing s).settings.get p).holdLimit
     let posts := r.kind = .write ∧ (regionAt (governing s) i).posting = true ∧ (s.ports.get p).queue = []
       ∧ openTo (currentWindow s) p = false
       ∧ s.posted.countP (fun e => decide (e.port = p)) < ((governing s).settings.get p).quota ∧ s.posted.length < 16
       ∧ cost ≤ (governing s).derived.longestRetire.get p
     (posts → exec (.requestArrival p r) s = .next { s with
         posted := s.posted ++ [⟨p, r.tag, r.addr, r.beats, r.data, activePlan s, .waiting⟩]
         out := { Outputs.none with responses := Outputs.none.responses.set p [⟨r.tag, .okay, true, none⟩] } })
     ∧ (¬ posts → exec (.requestArrival p r) s = .next { s with
         ports := s.ports.set p { s.ports.get p with
           queue := (s.ports.get p).queue
             ++ [⟨r.tag, r.kind, r.addr, r.beats, r.data, some cost, if hold = 0 then none else some hold⟩]
           tags := (s.ports.get p).tags ++ [r.tag] }
         out := Outputs.none }))
    ∧ (∀ (r : Request) (s : State), s.inReset = false → r.wellFormed = true → Ready s .p0 →
       s.sched.gate = .stopped ∨ s.sched.gate = .armed → r.addr.toNat % 8 = 0 →
       r.addr.toNat % 4096 + r.beats * 8 ≤ 4096 → r.tag ∉ s.ports.p0.tags →
       exec (.requestArrival .p0 r) s = .next { s with
         ports := { s.ports with p0 := { s.ports.p0 with
           queue := s.ports.p0.queue ++ [⟨r.tag, r.kind, r.addr, r.beats, r.data, none, none⟩]
           tags := s.ports.p0.tags ++ [r.tag] } }
         out := Outputs.none })

/-! ### Grants -/

/-- R91, R94, R96, R124 to R126: when the memory port can take an issue and a port is the first eligible contender after
the last winner, its head leaves the queue, its tag stays outstanding, and it is issued under the lowest free tag at the
tail of the issue list, age 0 and not orphan. -/
def Obligations.GrantIssuesTheHead : Prop :=
  ∀ (s : State) (p : Port) (h : Held) (rest : List Held) (t : IssueTag), Lawful s → s.inReset = false →
    s.mem.state = .ready → Wins s (.port p) → (s.ports.get p).queue = h :: rest → LowestFree s.mem.issueList t →
    exec (.grant true) s = .next { s with
      ports := s.ports.set p { s.ports.get p with queue := rest }
      lastWinner := .port p
      mem := { s.mem with issueList := s.mem.issueList ++ [⟨t, .port p h.tag, h.kind, h.addr, h.beats, 0, false⟩] }
      out := { Outputs.none with issues := [⟨t, h.kind, h.addr, h.beats, h.data⟩] } }

/-- R111 to R113, R115, R125 and R126: when RETIRE is the first eligible contender, the oldest entry that may retire
becomes IN_FLIGHT in its place, with its issue tag (log entry 9), and is issued as a WRITE under the lowest free tag. R124 and R125: no grant is made,
and the last winner stays, while the memory's request channel is not ready, the memory port is not READY, or no
contender is eligible. -/
def Obligations.GrantRetiresOrWaits : Prop :=
  (∀ (s : State) (older younger : List PostedEntry) (e : PostedEntry) (t : IssueTag), Lawful s → s.inReset = false →
     s.mem.state = .ready → Wins s .retire → s.posted = older ++ e :: younger →
     RetireMayIssue s e older.length → (∀ i < older.length, ∀ o ∈ s.posted[i]?, ¬ RetireMayIssue s o i) →
     LowestFree s.mem.issueList t →
     exec (.grant true) s = .next { s with
       posted := older ++ { e with state := .inFlight t } :: younger
       lastWinner := .retire
       mem := { s.mem with issueList := s.mem.issueList ++ [⟨t, .posted, .write, e.addr, e.beats, 0, false⟩] }
       out := { Outputs.none with issues := [⟨t, .write, e.addr, e.beats, e.data⟩] } })
    ∧ (∀ (s : State), Lawful s → s.inReset = false →
       exec (.grant false) s = .next { s with out := Outputs.none }
       ∧ (s.mem.state ≠ .ready → exec (.grant true) s = .next { s with out := Outputs.none })
       ∧ ((∀ c, ¬ MayIssue s c) → exec (.grant true) s = .next { s with out := Outputs.none }))

/-! ### Management commands that read -/

/-- STATUS, READ FAULT, READ SYNC, READ RECOVERY REPORT and READ PLAN ITEM answer DONE with the data as it stands
(R161, R174, R183, R187, R188). STATUS answers during RESET GATE too and leaves the last-command result (R180). With
take, READ FAULT empties the record and READ SYNC clears the valid flag; nothing else changes. The operands that the
reading commands refuse BAD_ARG, with nothing changed: a port above 3, a take flag that is neither (R161, R174), a
plan that is neither A nor B, an item above 5, an index above the item's range (R187). -/
def Obligations.ReadingCommandsAnswer : Prop :=
  ((∀ s : State, Sendable .status s →
       let a := answered 0x01 .done (statusData s) { s with out := Outputs.none }
       exec .status s = .next { a with link := { a.link with lastResult := s.link.lastResult, lastCode := s.link.lastCode } })
     ∧ (∀ (s : State) (p : Port) (take : Bool),
         let c := Instr.readFault (portByte p) (if take then 0x01 else 0x00)
         Open c s → exec c s = .next (answered 0x03 .done (faultData (s.events.faults.get p)) { s with
           events := { s.events with
             faults := if take then s.events.faults.set p ⟨none, 0⟩ else s.events.faults }
           out := Outputs.none }))
     ∧ (∀ (s : State) (take : Bool),
         let c := Instr.readSync (if take then 0x01 else 0x00)
         Open c s → exec c s = .next (answered 0x04 .done (captureData s.sync.capture) { s with
           sync := { s.sync with capture := { s.sync.capture with valid := s.sync.capture.valid && !take } }
           out := Outputs.none }))
     ∧ (∀ s : State, Open .readRecoveryReport s →
         exec .readRecoveryReport s
           = .next (answered 0x05 .done (recoveryReportData s.mem.report) { s with out := Outputs.none }))
     ∧ (∀ (s : State) (n : PlanName) (item index : Byte) (data : List Byte),
         let c := Instr.readPlanItem (planByte n) item index
         Open c s → planItem s n item index = some data →
         exec c s = .next (answered 0x16 .done data { s with out := Outputs.none })))
    ∧ (∀ s : State,
       (∀ port take : Byte, Open (.readFault port take) s → 3 < port.toNat ∨ 1 < take.toNat →
         exec (.readFault port take) s = .next (answered 0x03 .badArg (List.replicate 16 0x00) { s with out := Outputs.none }))
       ∧ (∀ take : Byte, Open (.readSync take) s → 1 < take.toNat →
         exec (.readSync take) s = .next (answered 0x04 .badArg (List.replicate 15 0x00) { s with out := Outputs.none }))
       ∧ (∀ plan item index : Byte, Open (.readPlanItem plan item index) s →
         (1 < plan.toNat ∨ 5 < item.toNat ∨ (item = 0 ∧ 31 < index.toNat) ∨ (item = 1 ∧ 15 < index.toNat)
           ∨ (item = 2 ∧ 3 < index.toNat) ∨ (3 ≤ item.toNat ∧ index ≠ 0)) →
         exec (.readPlanItem plan item index) s
           = .next (answered 0x16 .badArg (List.replicate 20 0x00) { s with out := Outputs.none })))

/-- Table 11-5: in every lawful state the 26 bytes of STATUS hold the fields at their offsets, none cut short, in the codes
of Tables 11-1 and 11-3. -/
def Obligations.StatusShowsTheState : Prop :=
  ∀ s : State, Lawful s →
    let d := statusData s
    d.length = 26
      ∧ fieldAt d 0 1 = (match s.sched.gate with
          | .stopped => 0 | .armed => 1 | .running => 2 | .halting => 3 | .faulted => 4)
      ∧ fieldAt d 1 1 = (match s.mem.state with | .ready => 0 | .failed => 1 | .resetting => 2)
      ∧ fieldAt d 2 1 = (match activePlan s with | some .a => 0 | some .b => 1 | none => 255)
      ∧ (∀ n, fieldAt d (match n with | .a => 3 | .b => 4) 1 = (match (s.plans.get n).state with
          | .edit => 0 | .checking => 1 | .ready => 2 | .active => 3))
      ∧ fieldAt d 5 1 = (match s.sched.pendingSwap with | some .a => 0 | some .b => 1 | none => 255)
      ∧ fieldAt d 6 1 = s.sched.pendingHalt.toNat + 2 * s.check.isSome.toNat + 4 * s.link.resetting.toNat
          + 8 * s.sched.startOnSync.toNat
      ∧ fieldAt d 7 1 = s.sched.window ∧ fieldAt d 8 2 = s.sched.offset ∧ fieldAt d 10 4 = s.sched.frame.toNat
      ∧ (∀ p, fieldAt d (14 + portIndex p) 1 = (s.ports.get p).queue.length
          ∧ fieldAt d (18 + portIndex p) 1 = s.posted.countP (fun e => decide (e.port = p)))
      ∧ fieldAt d 22 1 = s.posted.length ∧ fieldAt d 23 1 = s.mem.issueList.length
      ∧ fieldAt d 24 1 = (match s.link.lastResult with
          | .done => 0x00 | .accepted => 0x01 | .busy => 0x02 | .wrongState => 0x03 | .badArg => 0x04
          | .planActive => 0x05 | .notReady => 0x06 | .badCrc => 0x07 | .unknown => 0x08 | .truncated => 0x09)
      ∧ fieldAt d 25 1 = s.link.lastCode.toNat

/-- Table 11-4: in every lawful state the data of READ FAULT, READ SYNC and READ RECOVERY REPORT hold the fields of
their records at their offsets, in the codes of Tables 11-3 and 11-4, an absent field as 0 with its presence mark clear
(R182). Table 11-7: in every lawful state READ PLAN ITEM returns 20 bytes that hold the item's fields at their offsets, in
the codes of Tables 11-3 and 11-7. -/
def Obligations.ReadDataShowsTheRecords : Prop :=
  (∀ s : State, Lawful s →
     (∀ p, let r := s.events.faults.get p
       let d := faultData r
       d.length = 16 ∧ fieldAt d 15 1 = r.later
         ∧ (r.first = none → d.take 15 = List.replicate 15 0x00)
         ∧ (∀ i, r.first = some i →
           fieldAt d 0 1 = 1 + 2 * i.window.isSome.toNat + 4 * i.plan.isSome.toNat + 8 * i.frame.isSome.toNat
           ∧ fieldAt d 1 1 = (match i.reason with
             | .misaligned => 1 | .boundary => 2 | .tagInUse => 3 | .noRegion => 4 | .spans => 5 | .rights => 6
             | .noWindow => 7 | .tooLong => 8 | .late => 9 | .memError => 10 | .memAbandoned => 11 | .postedFailed => 12
             | .postedAbandoned => 13)
           ∧ fieldAt d 2 1 = i.tag.val
           ∧ fieldAt d 3 1 = (if i.kind = .read then 0 else 1) ∧ fieldAt d 4 4 = i.addr.toNat ∧ fieldAt d 8 1 = i.beats
           ∧ fieldAt d 9 1 = i.window.getD 0 ∧ fieldAt d 10 1 = (if i.plan = some .b then 1 else 0)
           ∧ fieldAt d 11 4 = (i.frame.map (·.toNat)).getD 0))
     ∧ (let c := s.sync.capture
       let d := captureData c
       d.length = 15 ∧ fieldAt d 0 1 = c.valid.toNat + 2 * c.position.isSome.toNat
         ∧ fieldAt d 1 1 = (match c.outcome with
           | .none => 0 | .started => 1 | .observed => 2 | .inStep => 3 | .earlyCut => 4 | .lateRewind => 5
           | .outOfLimit => 6)
         ∧ (c.position = none → d.drop 2 = List.replicate 13 0x00)
         ∧ (∀ x, c.position = some x → fieldAt d 2 4 = x.frame.toNat ∧ fieldAt d 6 1 = x.window ∧ fieldAt d 7 2 = x.offset
           ∧ fieldAt d 9 3 = x.ticks ∧ fieldAt d 12 3 = x.length))
     ∧ (let r := s.mem.report
       let d := recoveryReportData r
       d.length = 9
         ∧ fieldAt d 0 1 = (match r.reason with | none => 0 | some .timeout => 1 | some .order => 2)
         ∧ fieldAt d 1 1 = r.frame.isSome.toNat ∧ fieldAt d 2 4 = (r.frame.map (·.toNat)).getD 0
         ∧ fieldAt d 6 1 = r.lost ∧ fieldAt d 7 1 = r.answered
         ∧ fieldAt d 8 1 = (match r.outcome with | .none => 0 | .inProgress => 1 | .succeeded => 2 | .failed => 3)))
    ∧ (∀ (s : State) (n : PlanName), Lawful s →
       let p := s.plans.get n
       (∀ i : Byte, i.toNat ≤ 31 → ∃ d, planItem s n 0 i = some d ∧ d.length = 20
         ∧ fieldAt d 0 2 = (windowAt p i.toNat).length ∧ fieldAt d 2 1 = (windowAt p i.toNat).openSet.toNat
         ∧ fieldAt d 3 1 = (windowAt p i.toNat).drain.toNat ∧ d.drop 4 = List.replicate 16 0x00)
       ∧ (∀ i : Byte, i.toNat ≤ 15 → ∃ d, planItem s n 1 i = some d ∧ d.length = 20
         ∧ fieldAt d 0 4 = (regionAt p i.toNat).base.toNat ∧ fieldAt d 4 5 = (regionAt p i.toNat).size
         ∧ (∀ q, fieldAt d 9 1 / 4 ^ portIndex q % 4 = (match (regionAt p i.toNat).rights.get q with
             | .none => 0 | .read => 1 | .readWrite => 2))
         ∧ fieldAt d 10 1 = (regionAt p i.toNat).posting.toNat ∧ d.drop 11 = List.replicate 9 0x00)
       ∧ (∀ q, ∃ d, planItem s n 2 (portByte q) = some d ∧ d.length = 20
         ∧ fieldAt d 0 2 = (p.settings.get q).holdLimit ∧ fieldAt d 2 1 = (p.settings.get q).quota
         ∧ d.drop 3 = List.replicate 17 0x00)
       ∧ (∃ d, planItem s n 3 0 = some d ∧ d.length = 20 ∧ fieldAt d 0 1 = p.windowCount ∧ fieldAt d 1 1 = p.regionCount
         ∧ fieldAt d 2 1 = p.overhead ∧ fieldAt d 3 1 = p.beatCost ∧ d.drop 4 = List.replicate 16 0x00)
       ∧ (∃ d, planItem s n 4 0 = some d ∧ d.length = 20
         ∧ (∀ q, fieldAt d (2 * portIndex q) 2 = p.derived.longestOpen.get q
           ∧ fieldAt d (8 + 2 * portIndex q) 2 = p.derived.longestRetire.get q)
         ∧ fieldAt d 16 3 = p.derived.frameLength ∧ d.drop 19 = [0x00])
       ∧ (∃ d, planItem s n 5 0 = some d ∧ d.length = 20
         ∧ fieldAt d 0 1 = (match p.state with | .edit => 0 | .checking => 1 | .ready => 2 | .active => 3)
         ∧ fieldAt d 1 1 = (if s.sched.pendingSwap = some n then 1 else 0)
         ∧ fieldAt d 2 1 = (match p.report with | .none => 0 | .passed _ _ => 1 | .failed _ => 2)
         ∧ fieldAt d 3 1 = (match p.report with
           | .none | .passed _ _ => 0
           | .failed .noWindows => 1 | .failed (.windowUnset _) => 2 | .failed .allQuiet => 3
           | .failed (.regionUnset _) => 4 | .failed (.regionRange _) => 5 | .failed (.stranded _) => 6)
         ∧ fieldAt d 4 1 = (match p.report with
           | .none | .passed _ _ | .failed .noWindows | .failed .allQuiet => 0
           | .failed (.windowUnset i) => i | .failed (.regionUnset i) => i | .failed (.regionRange i) => i
           | .failed (.stranded .p0) => 0 | .failed (.stranded .p1) => 1 | .failed (.stranded .p2) => 2
           | .failed (.stranded .p3) => 3)
         ∧ fieldAt d 5 1 = (match p.report with
           | .none | .failed _ => 0
           | .passed u noRegions => u.p0.toNat + 2 * u.p1.toNat + 4 * u.p2.toNat + 8 * u.p3.toNat + 16 * noRegions.toNat)
         ∧ d.drop 6 = List.replicate 14 0x00))

/-! ### Management commands that set -/

/-- TAKE EVENTS answers the event set as it stands and removes the kinds of its mask; SET ALERTS replaces the enable set;
ALERT follows at the same event (R166, R168, R169). A mask with a bit of no kind is BAD_ARG and changes nothing. -/
def Obligations.EventCommandsAct : Prop :=
  ∀ (m : BitVec 16) (s : State),
    (Open (.takeEvents m) s → m.toNat < 4096 →
      exec (.takeEvents m) s = .next (answered 0x02 .done
        [BitVec.ofNat 8 (s.events.set.toNat / 256), BitVec.ofNat 8 (s.events.set.toNat % 256)] { s with
        events := { s.events with
          set := s.events.set &&& ~~~(m.setWidth 12)
          alert := (s.events.set &&& ~~~(m.setWidth 12) &&& s.events.enabled) != 0 }
        out := Outputs.none }))
    ∧ (Open (.takeEvents m) s → 4096 ≤ m.toNat →
      exec (.takeEvents m) s = .next (answered 0x02 .badArg [0x00, 0x00] { s with out := Outputs.none }))
    ∧ (Open (.setAlerts m) s → m.toNat < 4096 →
      exec (.setAlerts m) s = .next (answered 0x08 .done [] { s with
        events := { s.events with
          enabled := m.setWidth 12, alert := (s.events.set &&& m.setWidth 12) != 0 }
        out := Outputs.none }))
    ∧ (Open (.setAlerts m) s → 4096 ≤ m.toNat →
      exec (.setAlerts m) s = .next (answered 0x08 .badArg [] { s with out := Outputs.none }))

/-- SET DEVICE (R185): BAD_ARG, then WRONG_STATE, then the four settings replaced together. A changed divider restarts
the tick's count (R27); boot pass turned off answers P0's held requests CLOSED (R98); a limit that the oldest entry's
age has reached fails the memory port at the command, still DONE (R141). The clearing comes before the limit's test
(log entry 8). SET SYNC (R186): BAD_ARG, then WRONG_STATE, then the three settings replaced together, the capture
record kept. -/
def Obligations.SettingsAreReplacedTogether : Prop :=
  (∀ (divider pulse boot : Byte) (limit : BitVec 16) (s : State), Open (.setDevice divider limit pulse boot) s →
     let c := Instr.setDevice divider limit pulse boot
     let inRange := divider.toNat ≤ 8 ∧ pulse ≠ 0 ∧ boot.toNat ≤ 1
     let off := s.device.bootPass = true ∧ boot = 0
     let set : State := { s with
       device := ⟨2 ^ divider.toNat, limit.toNat, pulse.toNat, decide (boot = 1)⟩
       ticked := if 2 ^ divider.toNat = s.device.divider then s.ticked else 0
       ports := if off then { s.ports with p0 := emptied s.ports.p0 } else s.ports
       out := if off then { Outputs.none with responses := Outputs.none.responses.set .p0 (queueAnswers .closed s.ports.p0) }
         else Outputs.none }
     let tooOld := limit.toNat ≠ s.device.limit ∧ s.mem.state = .ready ∧ limit ≠ 0
       ∧ ∃ e ∈ s.mem.issueList.head?, limit.toNat ≤ e.age
     (inRange → s.sched.gate = .stopped → ¬ tooOld → exec c s = .next (answered 0x09 .done [] set))
     ∧ (inRange → s.sched.gate = .stopped → tooOld → exec c s = .next (answered 0x09 .done [] (failedFrom .timeout set)))
     ∧ (inRange → s.sched.gate ≠ .stopped → exec c s = .next (answered 0x09 .wrongState [] { s with out := Outputs.none }))
     ∧ (¬ inRange → exec c s = .next (answered 0x09 .badArg [] { s with out := Outputs.none })))
    ∧ (∀ (mode edge : Byte) (limit : BitVec 16) (s : State), Open (.setSync mode edge limit) s →
       let c := Instr.setSync mode edge limit
       let inRange := mode.toNat ≤ 2 ∧ edge.toNat ≤ 1 ∧ limit.toNat ≤ 4095
       (inRange → s.sched.gate = .stopped → exec c s = .next (answered 0x0A .done [] { s with
           sync := { s.sync with
             mode := if mode = 0 then .off else if mode = 1 then .observe else .align
             edge := if edge = 0 then .rising else .falling
             limit := limit.toNat }
           out := Outputs.none }))
       ∧ (inRange → s.sched.gate ≠ .stopped → exec c s = .next (answered 0x0A .wrongState [] { s with out := Outputs.none }))
       ∧ (¬ inRange → exec c s = .next (answered 0x0A .badArg [] { s with out := Outputs.none })))

/-! ### Plan commands -/

/-- R10 steps 1 and 2 for the six plan writes: a plan that is neither A nor B is BAD_ARG; then, whatever the values, an
ACTIVE plan is PLAN_ACTIVE, a plan CHECKING is BUSY, and a READY plan that is the pending swap target is WRONG_STATE.
Nothing changes. -/
def Obligations.PlanWritesAreRefusedByState : Prop :=
  ∀ (c : Instr) (code plan : Byte) (s : State), writeTarget c = some (code, plan) → Open c s →
    let refused : Result → Host.Outcome State Fault Refusal :=
      fun r => .next (answered code r [] { s with out := Outputs.none })
    (1 < plan.toNat → exec c s = refused .badArg)
    ∧ (∀ n, plan = planByte n →
      ((s.plans.get n).state = .active → exec c s = refused .planActive)
      ∧ ((s.plans.get n).state = .checking → exec c s = refused .busy)
      ∧ ((s.plans.get n).state = .ready → s.sched.pendingSwap = some n → exec c s = refused .wrongState))

/-- WRITE WINDOW and SET WINDOW COUNT on a plan that can be written (R10 to R12): out of range BAD_ARG; else the
record or the count is replaced, the plan is EDIT with report NONE, and nothing else changes. WRITE REGION and SET
REGION COUNT on a plan that can be written (R10, R13, R14). A rights byte holds two bits for each port, P0 in the
lowest (Table 11-3). WRITE PORT SETTINGS and WRITE COSTS on a plan that can be written (R10, R15, R16). -/
def Obligations.PlanWritesReplaceTheirFields : Prop :=
  (∀ (n : PlanName) (s : State), Writable s n →
     let taken : Byte → Plan → Host.Outcome State Fault Refusal := fun code p => .next (answered code .done [] { s with
       plans := s.plans.set n { p with state := .edit, report := .none }, out := Outputs.none })
     (∀ (i o d : Byte) (l : BitVec 16), Open (.writeWindow (planByte n) i l o d) s →
       (i.toNat ≤ 31 → l ≠ 0 → exec (.writeWindow (planByte n) i l o d) s = taken 0x10 { s.plans.get n with
         windows := (s.plans.get n).windows.setIfInBounds i.toNat ⟨l.toNat, BitVec.ofNat 4 o.toNat, decide (d ≠ 0)⟩ })
       ∧ (31 < i.toNat ∨ l = 0 → exec (.writeWindow (planByte n) i l o d) s
         = .next (answered 0x10 .badArg [] { s with out := Outputs.none })))
     ∧ (∀ k : Byte, Open (.setWindowCount (planByte n) k) s →
       (k.toNat ≤ 32 → exec (.setWindowCount (planByte n) k) s = taken 0x11 { s.plans.get n with windowCount := k.toNat })
       ∧ (32 < k.toNat → exec (.setWindowCount (planByte n) k) s
         = .next (answered 0x11 .badArg [] { s with out := Outputs.none }))))
    ∧ (∀ (n : PlanName) (s : State), Writable s n →
       let taken : Byte → Plan → Host.Outcome State Fault Refusal := fun code p => .next (answered code .done [] { s with
         plans := s.plans.set n { p with state := .edit, report := .none }, out := Outputs.none })
       (∀ (i rights q : Byte) (base : Addr) (size : BitVec 40), Open (.writeRegion (planByte n) i base size rights q) s →
         let right : Nat → Nat := fun k => rights.toNat / 4 ^ k % 4
         let value : Nat → Rights := fun v => if v = 0 then .none else if v = 1 then .read else .readWrite
         let inRange := i.toNat ≤ 15 ∧ base.toNat % 4096 = 0 ∧ size ≠ 0 ∧ size.toNat % 4096 = 0 ∧ size.toNat ≤ 4294967296
           ∧ right 0 ≠ 3 ∧ right 1 ≠ 3 ∧ right 2 ≠ 3 ∧ right 3 ≠ 3
         (inRange → exec (.writeRegion (planByte n) i base size rights q) s = taken 0x12 { s.plans.get n with
           regions := (s.plans.get n).regions.setIfInBounds i.toNat
             ⟨base, size.toNat, ⟨value (right 0), value (right 1), value (right 2), value (right 3)⟩, decide (q ≠ 0)⟩ })
         ∧ (¬ inRange → exec (.writeRegion (planByte n) i base size rights q) s
           = .next (answered 0x12 .badArg [] { s with out := Outputs.none })))
       ∧ (∀ k : Byte, Open (.setRegionCount (planByte n) k) s →
         (k.toNat ≤ 16 → exec (.setRegionCount (planByte n) k) s = taken 0x13 { s.plans.get n with regionCount := k.toNat })
         ∧ (16 < k.toNat → exec (.setRegionCount (planByte n) k) s
           = .next (answered 0x13 .badArg [] { s with out := Outputs.none }))))
    ∧ (∀ (n : PlanName) (s : State), Writable s n →
       let taken : Byte → Plan → Host.Outcome State Fault Refusal := fun code p => .next (answered code .done [] { s with
         plans := s.plans.set n { p with state := .edit, report := .none }, out := Outputs.none })
       (∀ (p : Port) (q : Byte) (h : BitVec 16), Open (.writePortSettings (planByte n) (portByte p) h q) s →
         (q.toNat ≤ 16 → exec (.writePortSettings (planByte n) (portByte p) h q) s = taken 0x14 { s.plans.get n with
           settings := (s.plans.get n).settings.set p ⟨h.toNat, q.toNat⟩ })
         ∧ (16 < q.toNat → exec (.writePortSettings (planByte n) (portByte p) h q) s
           = .next (answered 0x14 .badArg [] { s with out := Outputs.none })))
       ∧ (∀ (port q : Byte) (h : BitVec 16), Open (.writePortSettings (planByte n) port h q) s → 3 < port.toNat →
         exec (.writePortSettings (planByte n) port h q) s = .next (answered 0x14 .badArg [] { s with out := Outputs.none }))
       ∧ (∀ o b : Byte, Open (.writeCosts (planByte n) o b) s →
         (o.toNat ≤ 63 → b.toNat ≤ 15 → exec (.writeCosts (planByte n) o b) s = taken 0x15 { s.plans.get n with
           overhead := o.toNat, beatCost := b.toNat })
         ∧ (63 < o.toNat ∨ 15 < b.toNat → exec (.writeCosts (planByte n) o b) s
           = .next (answered 0x15 .badArg [] { s with out := Outputs.none }))))

/-- COPY PLAN (R17): NOT_READY without an ACTIVE plan, then BUSY, then WRONG_STATE; else the other plan takes every
part of the active plan and becomes EDIT with report NONE. CHECK PLAN (R18): BAD_ARG, BUSY, PLAN_ACTIVE, WRONG_STATE
in that order; else ACCEPTED: the plan is CHECKING with report NONE and its derived values unchanged, and a check is
in progress on it, nothing built and nothing visited. -/
def Obligations.CopyAndCheckPlan : Prop :=
  (∀ (s : State), Open .copyPlan s →
     let refused : Result → Host.Outcome State Fault Refusal :=
       fun r => .next (answered 0x17 r [] { s with out := Outputs.none })
     (activePlan s = none → exec .copyPlan s = refused .notReady)
     ∧ (∀ n, activePlan s = some n →
       ((s.plans.get n.other).state = .checking → exec .copyPlan s = refused .busy)
       ∧ ((s.plans.get n.other).state ≠ .checking → s.sched.pendingSwap = some n.other →
         exec .copyPlan s = refused .wrongState)
       ∧ ((s.plans.get n.other).state ≠ .checking → s.sched.pendingSwap ≠ some n.other →
         exec .copyPlan s = .next (answered 0x17 .done [] { s with
           plans := s.plans.set n.other { s.plans.get n with state := .edit, report := .none }, out := Outputs.none }))))
    ∧ (∀ (plan : Byte) (s : State), Open (.checkPlan plan) s →
       let refused : Result → Host.Outcome State Fault Refusal :=
         fun r => .next (answered 0x18 r [] { s with out := Outputs.none })
       (1 < plan.toNat → exec (.checkPlan plan) s = refused .badArg)
       ∧ (∀ n, plan = planByte n →
         (s.check ≠ none → exec (.checkPlan plan) s = refused .busy)
         ∧ (s.check = none → (s.plans.get n).state = .active → exec (.checkPlan plan) s = refused .planActive)
         ∧ (s.check = none → (s.plans.get n).state ≠ .active → s.sched.pendingSwap = some n →
           exec (.checkPlan plan) s = refused .wrongState)
         ∧ (s.check = none → (s.plans.get n).state ≠ .active → s.sched.pendingSwap ≠ some n →
           exec (.checkPlan plan) s = .next (answered 0x18 .accepted [] { s with
             plans := s.plans.set n { s.plans.get n with state := .checking, report := .none }
             check := some ⟨n, if (s.plans.get n).windowCount = 0 then .finish (some .noWindows) else .window 0,
               ⟨⟨0, 0, 0, 0⟩, ⟨0, 0, 0, 0⟩, 0⟩, false⟩
             out := Outputs.none }))))

/-! ### Gate commands -/

/-- REQUEST SWAP: in STOPPED a READY plan becomes ACTIVE at once, the plan that was ACTIVE becomes READY with its report and
derived values, its posted entries are carried, and SWAP_DONE is raised (R23, R110); in RUNNING it becomes the pending swap
target (R38). The refusals of both rules come in their order. -/
def Obligations.RequestSwapActivatesOrPends : Prop :=
  ∀ (plan : Byte) (s : State), Open (.requestSwap plan) s →
    let refused : Result → Host.Outcome State Fault Refusal :=
      fun r => .next (answered 0x20 r [] { s with out := Outputs.none })
    (1 < plan.toNat → exec (.requestSwap plan) s = refused .badArg)
    ∧ (∀ n, plan = planByte n →
      (s.sched.gate = .armed ∨ s.sched.gate = .halting ∨ s.sched.gate = .faulted →
        exec (.requestSwap plan) s = refused .wrongState)
      ∧ (s.sched.gate = .stopped → (s.plans.get n).state ≠ .ready → exec (.requestSwap plan) s = refused .notReady)
      ∧ (s.sched.gate = .stopped → (s.plans.get n).state = .ready →
        let t := swappedTo n { s with out := Outputs.none }
        exec (.requestSwap plan) s = .next (answered 0x20 .done [] { t with events := eventsWith 0x020 s.events }))
      ∧ (s.sched.gate = .running → (s.plans.get n).state = .active → exec (.requestSwap plan) s = refused .planActive)
      ∧ (s.sched.gate = .running → (s.plans.get n).state = .edit ∨ (s.plans.get n).state = .checking →
        exec (.requestSwap plan) s = refused .notReady)
      ∧ (s.sched.gate = .running → (s.plans.get n).state = .ready → s.sched.pendingSwap ≠ none →
        exec (.requestSwap plan) s = refused .busy)
      ∧ (s.sched.gate = .running → (s.plans.get n).state = .ready → s.sched.pendingSwap = none →
        exec (.requestSwap plan) s = .next (answered 0x20 .accepted [] { s with
          sched := { s.sched with pendingSwap := some n }, out := Outputs.none })))

/-- R39: WITHDRAW SWAP is DONE in every gate state; a pending swap is withdrawn and its target stays READY; without one
nothing changes; it raises no event. -/
def Obligations.WithdrawSwapIsDone : Prop :=
  ∀ (s : State), Open .withdrawSwap s →
    exec .withdrawSwap s = .next (answered 0x21 .done [] { s with
      sched := { s.sched with pendingSwap := none }, out := Outputs.none })

/-- START (R33, R35): BAD_ARG, WRONG_STATE, NOT_READY, BAD_ARG in that order; IMMEDIATE enters RUNNING with plan entry;
ON_SYNC enters ARMED. -/
def Obligations.StartRunsOrArms : Prop :=
  ∀ (mode : Byte) (s : State), Open (.start mode) s →
    let refused : Result → Host.Outcome State Fault Refusal :=
      fun r => .next (answered 0x22 r [] { s with out := Outputs.none })
    (1 < mode.toNat → exec (.start mode) s = refused .badArg)
    ∧ (mode.toNat ≤ 1 → s.sched.gate ≠ .stopped → exec (.start mode) s = refused .wrongState)
    ∧ (mode.toNat ≤ 1 → s.sched.gate = .stopped → activePlan s = none → exec (.start mode) s = refused .notReady)
    ∧ (mode = 0 → s.sched.gate = .stopped → activePlan s ≠ none →
      exec (.start mode) s = .next (answered 0x22 .done [] (runningFrom { s with out := Outputs.none })))
    ∧ (mode = 1 → s.sched.gate = .stopped → activePlan s ≠ none → s.sync.mode = .off →
      exec (.start mode) s = refused .badArg)
    ∧ (mode = 1 → s.sched.gate = .stopped → activePlan s ≠ none → s.sync.mode ≠ .off →
      exec (.start mode) s = .next (answered 0x22 .accepted [] { s with
        sched := { s.sched with gate := .armed, startOnSync := true }, out := Outputs.none }))

/-- HALT and HALT NOW by gate state (R36, R37). -/
def Obligations.HaltsStopTheGate : Prop :=
  ∀ (s : State),
    (Open .halt s →
      (s.sched.gate = .running → exec .halt s = .next (answered 0x23 .accepted [] { s with
        sched := { s.sched with gate := .halting, pendingHalt := true }, out := Outputs.none }))
      ∧ (s.sched.gate = .halting → exec .halt s = .next (answered 0x23 .done [] { s with out := Outputs.none }))
      ∧ (s.sched.gate = .armed → exec .halt s = .next (answered 0x23 .done [] (stoppedFrom { s with out := Outputs.none })))
      ∧ (s.sched.gate = .stopped ∨ s.sched.gate = .faulted →
        exec .halt s = .next (answered 0x23 .wrongState [] { s with out := Outputs.none })))
    ∧ (Open .haltNow s →
      (s.sched.gate = .running ∨ s.sched.gate = .halting ∨ s.sched.gate = .armed →
        exec .haltNow s = .next (answered 0x24 .done [] (stoppedFrom { s with
          sched := { s.sched with pendingSwap := none }, out := Outputs.none })))
      ∧ (s.sched.gate = .stopped ∨ s.sched.gate = .faulted →
        exec .haltNow s = .next (answered 0x24 .wrongState [] { s with out := Outputs.none })))

/-- RECOVER (R148): BUSY in RESETTING; then WRONG_STATE out of FAULTED; else the memory port is RESETTING with MEMRST
asserted for the recovery pulse, and the report's outcome is IN_PROGRESS (R149). R149 to R151: the end of the pulse
releases MEMRST and begins the ready wait, of the response limit or 65535 ticks; MEMRDY at the release or in the wait
makes the recovery succeed, with RECOVERY_DONE and the gate STOPPED (R41, R42); at the end of the wait it fails with
RECOVERY_DONE. A pulse or a wait with 0 ticks left, whose end is a command of its own, and a pulse end that is not due,
which has no effect, are log entry 4; the level of MEMRDY that comes with the pulse end is log entry 11. -/
def Obligations.RecoveryRunsToItsEnd : Prop :=
  (∀ (s : State), Open .recover s →
     (s.mem.state = .resetting → exec .recover s = .next (answered 0x25 .busy [] { s with out := Outputs.none }))
     ∧ (s.mem.state ≠ .resetting → s.sched.gate ≠ .faulted →
       exec .recover s = .next (answered 0x25 .wrongState [] { s with out := Outputs.none }))
     ∧ (s.mem.state ≠ .resetting → s.sched.gate = .faulted → exec .recover s = .next (answered 0x25 .accepted [] { s with
         mem := { s.mem with
           state := .resetting, memrst := true, recovery := .pulse s.device.pulse
           report := { s.mem.report with outcome := .inProgress } }
         out := Outputs.none })))
    ∧ ((∀ s : State, s.inReset = false → s.mem.recovery = .pulse 0 → exec (.recoveryPulseEnd false) s = .next { s with
         mem := { s.mem with
           memrst := false, memrdy := false
           recovery := .wait (if s.device.limit = 0 then 65535 else s.device.limit) }
         out := Outputs.none })
       ∧ (∀ s : State, s.inReset = false → s.mem.recovery = .pulse 0 →
           exec (.recoveryPulseEnd true) s = .next (stoppedFrom { s with
             mem := { s.mem with
               memrst := false, memrdy := true, state := .ready, recovery := .idle
               report := { s.mem.report with outcome := .succeeded } }
             events := eventsWith 0x008 s.events
             out := Outputs.none }))
       ∧ (∀ (s : State) (memrdy : Bool), s.inReset = false → s.mem.recovery ≠ .pulse 0 →
           exec (.recoveryPulseEnd memrdy) s = .next { s with out := Outputs.none })
       ∧ (∀ (s : State) (n : Nat), s.inReset = false → s.mem.recovery = .wait n →
           exec .memrdyAsserted s = .next (stoppedFrom { s with
             mem := { s.mem with
               memrdy := true, state := .ready, recovery := .idle, report := { s.mem.report with outcome := .succeeded } }
             events := eventsWith 0x008 s.events
             out := Outputs.none }))
       ∧ (∀ s : State, s.inReset = false → s.mem.recovery = .wait 0 → exec .readyWaitExpiry s = .next { s with
           mem := { s.mem with state := .failed, recovery := .idle, report := { s.mem.report with outcome := .failed } }
           events := eventsWith 0x008 s.events
           out := Outputs.none }))

/-- RESET GATE (R189, R100): refused WRONG_STATE in RUNNING, HALTING and FAULTED; in STOPPED it is ACCEPTED, P0's held
requests are answered CLOSED and the drain begins; in ARMED the gate first enters STOPPED (R42). R190: the reset step
that the last tick made due: the device and sync settings, the capture record, the event unit, the recovery report,
the position, the plan states, the last winner and the last-command result take their reset values; the plans keep
their contents and derived values; a check is aborted; a changed divider restarts the tick's count (R27). That the step
is a command after its tick is log entry 4. -/
def Obligations.ResetGateRunsToItsEnd : Prop :=
  (∀ (s : State), Open .resetGate s → s.link.resetDue = false →
     let accepted : State → State := fun t => answered 0x26 .accepted [] { t with
       ports := t.ports.set .p0 (emptied t.ports.p0)
       out := { t.out with responses := t.out.responses.set .p0 (t.out.responses.p0 ++ queueAnswers .closed t.ports.p0) }
       link := { t.link with resetting := true } }
     (s.sched.gate = .stopped → exec .resetGate s = .next (accepted { s with out := Outputs.none }))
     ∧ (s.sched.gate = .armed → exec .resetGate s = .next (accepted (stoppedFrom { s with out := Outputs.none })))
     ∧ (s.sched.gate = .running ∨ s.sched.gate = .halting ∨ s.sched.gate = .faulted →
       exec .resetGate s = .next (answered 0x26 .wrongState [] { s with out := Outputs.none })))
    ∧ (∀ s : State, s.inReset = false → Lawful s → s.link.resetDue = true → exec .resetStep s = .next { s with
       device := ⟨1, 4096, 16, true⟩
       ticked := if s.device.divider = 1 then s.ticked else 0
       sync := { s.sync with mode := .off, edge := .rising, limit := 0, capture := ⟨false, .none, none⟩ }
       events := ⟨0, 0, false, ⟨⟨none, 0⟩, ⟨none, 0⟩, ⟨none, 0⟩, ⟨none, 0⟩⟩⟩
       mem := { s.mem with report := ⟨none, none, 0, 0, .none⟩ }
       sched := { s.sched with window := 0, offset := 0, frame := 0 }
       plans := ⟨{ s.plans.a with state := .edit, report := .none }, { s.plans.b with state := .edit, report := .none }⟩
       check := none
       lastWinner := .retire
       link := { s.link with resetting := false, resetDue := false, lastResult := .done, lastCode := 0x26 }
       out := Outputs.none })

end
end

