-- ==== Sys2Proof/Laws/State.lean ====
section
/-! SUPPORT. One lemma for each field that a shared operation leaves as it is, and the reading of a port's value after a
write. All are true by unfolding, so that no later proof unfolds a record update. -/

namespace Sys2Proof.Machine

/-! ### Values per port and per plan -/

@[simp] theorem PerPort.get_set_same {α : Type} (x : PerPort α) (p : Port) (v : α) : (x.set p v).get p = v := by
  cases p <;> rfl

theorem PerPort.get_set_other {α : Type} (x : PerPort α) {p q : Port} (v : α) (h : q ≠ p) : (x.set p v).get q = x.get q := by
  cases p <;> cases q <;> first | rfl | exact absurd rfl h

theorem PerPort.get_set {α : Type} (x : PerPort α) (p q : Port) (v : α) : (x.set p v).get q = if q = p then v else x.get q := by
  cases p <;> cases q <;> rfl

@[simp] theorem PerPort.get_all {α : Type} (v : α) (p : Port) : (PerPort.all v).get p = v := by cases p <;> rfl

@[simp] theorem perPort_get {α : Type} (f : Port → α) (p : Port) : (perPort f).get p = f p := by cases p <;> rfl

/-- Two values per port are equal when each port's are. -/
theorem PerPort.eq_of_get {α : Type} {x y : PerPort α} (h : ∀ p, x.get p = y.get p) : x = y := by
  obtain ⟨a, b, c, d⟩ := x
  obtain ⟨a', b', c', d'⟩ := y
  have h0 := h .p0
  have h1 := h .p1
  have h2 := h .p2
  have h3 := h .p3
  simp only [PerPort.get] at h0 h1 h2 h3
  subst h0 h1 h2 h3
  rfl

theorem PerPort.set_eq_perPort {α : Type} (x : PerPort α) (p : Port) (v : α) :
    x.set p v = perPort (fun q => if q = p then v else x.get q) := by
  cases p <;> rfl

@[simp] theorem PerPlan.get_set_same {α : Type} (x : PerPlan α) (n : PlanName) (v : α) : (x.set n v).get n = v := by
  cases n <;> rfl

@[simp] theorem PerPlan.get_set_other {α : Type} (x : PerPlan α) (n : PlanName) (v : α) : (x.set n v).get n.other = x.get n.other := by
  cases n <;> rfl

theorem PerPlan.get_set {α : Type} (x : PerPlan α) (n m : PlanName) (v : α) : (x.set n v).get m = if m = n then v else x.get m := by
  cases n <;> cases m <;> rfl

/-! ### Fields an operation leaves -/

@[simp] theorem quiet_ports (s : State) : (quiet s).ports = s.ports := rfl
@[simp] theorem quiet_plans (s : State) : (quiet s).plans = s.plans := rfl
@[simp] theorem quiet_check (s : State) : (quiet s).check = s.check := rfl
@[simp] theorem quiet_sched (s : State) : (quiet s).sched = s.sched := rfl
@[simp] theorem quiet_posted (s : State) : (quiet s).posted = s.posted := rfl
@[simp] theorem quiet_lastWinner (s : State) : (quiet s).lastWinner = s.lastWinner := rfl
@[simp] theorem quiet_mem (s : State) : (quiet s).mem = s.mem := rfl
@[simp] theorem quiet_sync (s : State) : (quiet s).sync = s.sync := rfl
@[simp] theorem quiet_events (s : State) : (quiet s).events = s.events := rfl
@[simp] theorem quiet_link (s : State) : (quiet s).link = s.link := rfl
@[simp] theorem quiet_device (s : State) : (quiet s).device = s.device := rfl
@[simp] theorem quiet_ticked (s : State) : (quiet s).ticked = s.ticked := rfl
@[simp] theorem quiet_inReset (s : State) : (quiet s).inReset = s.inReset := rfl
@[simp] theorem quiet_pending (s : State) : (quiet s).pending = s.pending := rfl

@[simp] theorem raise_ports (k : EventKind) (s : State) : (raise k s).ports = s.ports := rfl
@[simp] theorem raise_plans (k : EventKind) (s : State) : (raise k s).plans = s.plans := rfl
@[simp] theorem raise_check (k : EventKind) (s : State) : (raise k s).check = s.check := rfl
@[simp] theorem raise_sched (k : EventKind) (s : State) : (raise k s).sched = s.sched := rfl
@[simp] theorem raise_posted (k : EventKind) (s : State) : (raise k s).posted = s.posted := rfl
@[simp] theorem raise_lastWinner (k : EventKind) (s : State) : (raise k s).lastWinner = s.lastWinner := rfl
@[simp] theorem raise_mem (k : EventKind) (s : State) : (raise k s).mem = s.mem := rfl
@[simp] theorem raise_sync (k : EventKind) (s : State) : (raise k s).sync = s.sync := rfl
@[simp] theorem raise_link (k : EventKind) (s : State) : (raise k s).link = s.link := rfl
@[simp] theorem raise_device (k : EventKind) (s : State) : (raise k s).device = s.device := rfl
@[simp] theorem raise_ticked (k : EventKind) (s : State) : (raise k s).ticked = s.ticked := rfl
@[simp] theorem raise_inReset (k : EventKind) (s : State) : (raise k s).inReset = s.inReset := rfl
@[simp] theorem raise_out (k : EventKind) (s : State) : (raise k s).out = s.out := rfl
@[simp] theorem raise_pending (k : EventKind) (s : State) : (raise k s).pending = s.pending := rfl

@[simp] theorem handFault_ports (p : Port) (i : FaultInfo) (s : State) : (handFault p i s).ports = s.ports := rfl
@[simp] theorem handFault_plans (p : Port) (i : FaultInfo) (s : State) : (handFault p i s).plans = s.plans := rfl
@[simp] theorem handFault_check (p : Port) (i : FaultInfo) (s : State) : (handFault p i s).check = s.check := rfl
@[simp] theorem handFault_sched (p : Port) (i : FaultInfo) (s : State) : (handFault p i s).sched = s.sched := rfl
@[simp] theorem handFault_posted (p : Port) (i : FaultInfo) (s : State) : (handFault p i s).posted = s.posted := rfl
@[simp] theorem handFault_lastWinner (p : Port) (i : FaultInfo) (s : State) : (handFault p i s).lastWinner = s.lastWinner := rfl
@[simp] theorem handFault_mem (p : Port) (i : FaultInfo) (s : State) : (handFault p i s).mem = s.mem := rfl
@[simp] theorem handFault_sync (p : Port) (i : FaultInfo) (s : State) : (handFault p i s).sync = s.sync := rfl
@[simp] theorem handFault_link (p : Port) (i : FaultInfo) (s : State) : (handFault p i s).link = s.link := rfl
@[simp] theorem handFault_device (p : Port) (i : FaultInfo) (s : State) : (handFault p i s).device = s.device := rfl
@[simp] theorem handFault_ticked (p : Port) (i : FaultInfo) (s : State) : (handFault p i s).ticked = s.ticked := rfl
@[simp] theorem handFault_inReset (p : Port) (i : FaultInfo) (s : State) : (handFault p i s).inReset = s.inReset := rfl
@[simp] theorem handFault_out (p : Port) (i : FaultInfo) (s : State) : (handFault p i s).out = s.out := rfl
@[simp] theorem handFault_pending (p : Port) (i : FaultInfo) (s : State) : (handFault p i s).pending = s.pending := rfl

@[simp] theorem mapPlan_ports (n : PlanName) (f : Plan → Plan) (s : State) : (mapPlan n f s).ports = s.ports := rfl
@[simp] theorem mapPlan_check (n : PlanName) (f : Plan → Plan) (s : State) : (mapPlan n f s).check = s.check := rfl
@[simp] theorem mapPlan_sched (n : PlanName) (f : Plan → Plan) (s : State) : (mapPlan n f s).sched = s.sched := rfl
@[simp] theorem mapPlan_posted (n : PlanName) (f : Plan → Plan) (s : State) : (mapPlan n f s).posted = s.posted := rfl
@[simp] theorem mapPlan_lastWinner (n : PlanName) (f : Plan → Plan) (s : State) : (mapPlan n f s).lastWinner = s.lastWinner := rfl
@[simp] theorem mapPlan_mem (n : PlanName) (f : Plan → Plan) (s : State) : (mapPlan n f s).mem = s.mem := rfl
@[simp] theorem mapPlan_sync (n : PlanName) (f : Plan → Plan) (s : State) : (mapPlan n f s).sync = s.sync := rfl
@[simp] theorem mapPlan_events (n : PlanName) (f : Plan → Plan) (s : State) : (mapPlan n f s).events = s.events := rfl
@[simp] theorem mapPlan_link (n : PlanName) (f : Plan → Plan) (s : State) : (mapPlan n f s).link = s.link := rfl
@[simp] theorem mapPlan_device (n : PlanName) (f : Plan → Plan) (s : State) : (mapPlan n f s).device = s.device := rfl
@[simp] theorem mapPlan_ticked (n : PlanName) (f : Plan → Plan) (s : State) : (mapPlan n f s).ticked = s.ticked := rfl
@[simp] theorem mapPlan_inReset (n : PlanName) (f : Plan → Plan) (s : State) : (mapPlan n f s).inReset = s.inReset := rfl
@[simp] theorem mapPlan_out (n : PlanName) (f : Plan → Plan) (s : State) : (mapPlan n f s).out = s.out := rfl
@[simp] theorem mapPlan_pending (n : PlanName) (f : Plan → Plan) (s : State) : (mapPlan n f s).pending = s.pending := rfl

@[simp] theorem mapPort_plans (p : Port) (f : PortUnit → PortUnit) (s : State) : (mapPort p f s).plans = s.plans := rfl
@[simp] theorem mapPort_check (p : Port) (f : PortUnit → PortUnit) (s : State) : (mapPort p f s).check = s.check := rfl
@[simp] theorem mapPort_sched (p : Port) (f : PortUnit → PortUnit) (s : State) : (mapPort p f s).sched = s.sched := rfl
@[simp] theorem mapPort_posted (p : Port) (f : PortUnit → PortUnit) (s : State) : (mapPort p f s).posted = s.posted := rfl
@[simp] theorem mapPort_lastWinner (p : Port) (f : PortUnit → PortUnit) (s : State) : (mapPort p f s).lastWinner = s.lastWinner := rfl
@[simp] theorem mapPort_mem (p : Port) (f : PortUnit → PortUnit) (s : State) : (mapPort p f s).mem = s.mem := rfl
@[simp] theorem mapPort_sync (p : Port) (f : PortUnit → PortUnit) (s : State) : (mapPort p f s).sync = s.sync := rfl
@[simp] theorem mapPort_events (p : Port) (f : PortUnit → PortUnit) (s : State) : (mapPort p f s).events = s.events := rfl
@[simp] theorem mapPort_link (p : Port) (f : PortUnit → PortUnit) (s : State) : (mapPort p f s).link = s.link := rfl
@[simp] theorem mapPort_device (p : Port) (f : PortUnit → PortUnit) (s : State) : (mapPort p f s).device = s.device := rfl
@[simp] theorem mapPort_ticked (p : Port) (f : PortUnit → PortUnit) (s : State) : (mapPort p f s).ticked = s.ticked := rfl
@[simp] theorem mapPort_inReset (p : Port) (f : PortUnit → PortUnit) (s : State) : (mapPort p f s).inReset = s.inReset := rfl
@[simp] theorem mapPort_out (p : Port) (f : PortUnit → PortUnit) (s : State) : (mapPort p f s).out = s.out := rfl
@[simp] theorem mapPort_pending (p : Port) (f : PortUnit → PortUnit) (s : State) : (mapPort p f s).pending = s.pending := rfl

@[simp] theorem give_ports (p : Port) (r : Response) (s : State) : (give p r s).ports = s.ports := rfl
@[simp] theorem give_plans (p : Port) (r : Response) (s : State) : (give p r s).plans = s.plans := rfl
@[simp] theorem give_check (p : Port) (r : Response) (s : State) : (give p r s).check = s.check := rfl
@[simp] theorem give_sched (p : Port) (r : Response) (s : State) : (give p r s).sched = s.sched := rfl
@[simp] theorem give_posted (p : Port) (r : Response) (s : State) : (give p r s).posted = s.posted := rfl
@[simp] theorem give_lastWinner (p : Port) (r : Response) (s : State) : (give p r s).lastWinner = s.lastWinner := rfl
@[simp] theorem give_mem (p : Port) (r : Response) (s : State) : (give p r s).mem = s.mem := rfl
@[simp] theorem give_sync (p : Port) (r : Response) (s : State) : (give p r s).sync = s.sync := rfl
@[simp] theorem give_events (p : Port) (r : Response) (s : State) : (give p r s).events = s.events := rfl
@[simp] theorem give_link (p : Port) (r : Response) (s : State) : (give p r s).link = s.link := rfl
@[simp] theorem give_device (p : Port) (r : Response) (s : State) : (give p r s).device = s.device := rfl
@[simp] theorem give_ticked (p : Port) (r : Response) (s : State) : (give p r s).ticked = s.ticked := rfl
@[simp] theorem give_inReset (p : Port) (r : Response) (s : State) : (give p r s).inReset = s.inReset := rfl
@[simp] theorem give_pending (p : Port) (r : Response) (s : State) : (give p r s).pending = s.pending := rfl

@[simp] theorem answer_plans (p : Port) (t : Tag) (st : Status) (d : Option (List BeatData)) (s : State) : (answer p t st d s).plans = s.plans := rfl
@[simp] theorem answer_check (p : Port) (t : Tag) (st : Status) (d : Option (List BeatData)) (s : State) : (answer p t st d s).check = s.check := rfl
@[simp] theorem answer_sched (p : Port) (t : Tag) (st : Status) (d : Option (List BeatData)) (s : State) : (answer p t st d s).sched = s.sched := rfl
@[simp] theorem answer_posted (p : Port) (t : Tag) (st : Status) (d : Option (List BeatData)) (s : State) : (answer p t st d s).posted = s.posted := rfl
@[simp] theorem answer_lastWinner (p : Port) (t : Tag) (st : Status) (d : Option (List BeatData)) (s : State) : (answer p t st d s).lastWinner = s.lastWinner := rfl
@[simp] theorem answer_mem (p : Port) (t : Tag) (st : Status) (d : Option (List BeatData)) (s : State) : (answer p t st d s).mem = s.mem := rfl
@[simp] theorem answer_sync (p : Port) (t : Tag) (st : Status) (d : Option (List BeatData)) (s : State) : (answer p t st d s).sync = s.sync := rfl
@[simp] theorem answer_events (p : Port) (t : Tag) (st : Status) (d : Option (List BeatData)) (s : State) : (answer p t st d s).events = s.events := rfl
@[simp] theorem answer_link (p : Port) (t : Tag) (st : Status) (d : Option (List BeatData)) (s : State) : (answer p t st d s).link = s.link := rfl
@[simp] theorem answer_device (p : Port) (t : Tag) (st : Status) (d : Option (List BeatData)) (s : State) : (answer p t st d s).device = s.device := rfl
@[simp] theorem answer_ticked (p : Port) (t : Tag) (st : Status) (d : Option (List BeatData)) (s : State) : (answer p t st d s).ticked = s.ticked := rfl
@[simp] theorem answer_inReset (p : Port) (t : Tag) (st : Status) (d : Option (List BeatData)) (s : State) : (answer p t st d s).inReset = s.inReset := rfl
@[simp] theorem answer_pending (p : Port) (t : Tag) (st : Status) (d : Option (List BeatData)) (s : State) : (answer p t st d s).pending = s.pending := rfl

@[simp] theorem joinQueue_plans (p : Port) (r : Request) (s : State) : (joinQueue p r s).plans = s.plans := rfl
@[simp] theorem joinQueue_check (p : Port) (r : Request) (s : State) : (joinQueue p r s).check = s.check := rfl
@[simp] theorem joinQueue_sched (p : Port) (r : Request) (s : State) : (joinQueue p r s).sched = s.sched := rfl
@[simp] theorem joinQueue_posted (p : Port) (r : Request) (s : State) : (joinQueue p r s).posted = s.posted := rfl
@[simp] theorem joinQueue_lastWinner (p : Port) (r : Request) (s : State) : (joinQueue p r s).lastWinner = s.lastWinner := rfl
@[simp] theorem joinQueue_mem (p : Port) (r : Request) (s : State) : (joinQueue p r s).mem = s.mem := rfl
@[simp] theorem joinQueue_sync (p : Port) (r : Request) (s : State) : (joinQueue p r s).sync = s.sync := rfl
@[simp] theorem joinQueue_events (p : Port) (r : Request) (s : State) : (joinQueue p r s).events = s.events := rfl
@[simp] theorem joinQueue_link (p : Port) (r : Request) (s : State) : (joinQueue p r s).link = s.link := rfl
@[simp] theorem joinQueue_device (p : Port) (r : Request) (s : State) : (joinQueue p r s).device = s.device := rfl
@[simp] theorem joinQueue_ticked (p : Port) (r : Request) (s : State) : (joinQueue p r s).ticked = s.ticked := rfl
@[simp] theorem joinQueue_inReset (p : Port) (r : Request) (s : State) : (joinQueue p r s).inReset = s.inReset := rfl
@[simp] theorem joinQueue_out (p : Port) (r : Request) (s : State) : (joinQueue p r s).out = s.out := rfl
@[simp] theorem joinQueue_pending (p : Port) (r : Request) (s : State) : (joinQueue p r s).pending = s.pending := rfl

@[simp] theorem tickDeadlines_plans (s : State) : (tickDeadlines s).plans = s.plans := rfl
@[simp] theorem tickDeadlines_check (s : State) : (tickDeadlines s).check = s.check := rfl
@[simp] theorem tickDeadlines_sched (s : State) : (tickDeadlines s).sched = s.sched := rfl
@[simp] theorem tickDeadlines_posted (s : State) : (tickDeadlines s).posted = s.posted := rfl
@[simp] theorem tickDeadlines_lastWinner (s : State) : (tickDeadlines s).lastWinner = s.lastWinner := rfl
@[simp] theorem tickDeadlines_mem (s : State) : (tickDeadlines s).mem = s.mem := rfl
@[simp] theorem tickDeadlines_sync (s : State) : (tickDeadlines s).sync = s.sync := rfl
@[simp] theorem tickDeadlines_events (s : State) : (tickDeadlines s).events = s.events := rfl
@[simp] theorem tickDeadlines_link (s : State) : (tickDeadlines s).link = s.link := rfl
@[simp] theorem tickDeadlines_device (s : State) : (tickDeadlines s).device = s.device := rfl
@[simp] theorem tickDeadlines_ticked (s : State) : (tickDeadlines s).ticked = s.ticked := rfl
@[simp] theorem tickDeadlines_inReset (s : State) : (tickDeadlines s).inReset = s.inReset := rfl
@[simp] theorem tickDeadlines_out (s : State) : (tickDeadlines s).out = s.out := rfl
@[simp] theorem tickDeadlines_pending (s : State) : (tickDeadlines s).pending = s.pending := rfl

@[simp] theorem rejectHeld_plans (p : Port) (st : Status) (x : FaultReason) (h : Held) (s : State) : (rejectHeld p st x h s).plans = s.plans := rfl
@[simp] theorem rejectHeld_check (p : Port) (st : Status) (x : FaultReason) (h : Held) (s : State) : (rejectHeld p st x h s).check = s.check := rfl
@[simp] theorem rejectHeld_sched (p : Port) (st : Status) (x : FaultReason) (h : Held) (s : State) : (rejectHeld p st x h s).sched = s.sched := rfl
@[simp] theorem rejectHeld_posted (p : Port) (st : Status) (x : FaultReason) (h : Held) (s : State) : (rejectHeld p st x h s).posted = s.posted := rfl
@[simp] theorem rejectHeld_lastWinner (p : Port) (st : Status) (x : FaultReason) (h : Held) (s : State) : (rejectHeld p st x h s).lastWinner = s.lastWinner := rfl
@[simp] theorem rejectHeld_mem (p : Port) (st : Status) (x : FaultReason) (h : Held) (s : State) : (rejectHeld p st x h s).mem = s.mem := rfl
@[simp] theorem rejectHeld_sync (p : Port) (st : Status) (x : FaultReason) (h : Held) (s : State) : (rejectHeld p st x h s).sync = s.sync := rfl
@[simp] theorem rejectHeld_link (p : Port) (st : Status) (x : FaultReason) (h : Held) (s : State) : (rejectHeld p st x h s).link = s.link := rfl
@[simp] theorem rejectHeld_device (p : Port) (st : Status) (x : FaultReason) (h : Held) (s : State) : (rejectHeld p st x h s).device = s.device := rfl
@[simp] theorem rejectHeld_ticked (p : Port) (st : Status) (x : FaultReason) (h : Held) (s : State) : (rejectHeld p st x h s).ticked = s.ticked := rfl
@[simp] theorem rejectHeld_inReset (p : Port) (st : Status) (x : FaultReason) (h : Held) (s : State) : (rejectHeld p st x h s).inReset = s.inReset := rfl
@[simp] theorem rejectHeld_pending (p : Port) (st : Status) (x : FaultReason) (h : Held) (s : State) : (rejectHeld p st x h s).pending = s.pending := rfl

@[simp] theorem postWrite_ports (p : Port) (r : Request) (s : State) : (postWrite p r s).ports = s.ports := rfl
@[simp] theorem postWrite_plans (p : Port) (r : Request) (s : State) : (postWrite p r s).plans = s.plans := rfl
@[simp] theorem postWrite_check (p : Port) (r : Request) (s : State) : (postWrite p r s).check = s.check := rfl
@[simp] theorem postWrite_sched (p : Port) (r : Request) (s : State) : (postWrite p r s).sched = s.sched := rfl
@[simp] theorem postWrite_lastWinner (p : Port) (r : Request) (s : State) : (postWrite p r s).lastWinner = s.lastWinner := rfl
@[simp] theorem postWrite_mem (p : Port) (r : Request) (s : State) : (postWrite p r s).mem = s.mem := rfl
@[simp] theorem postWrite_sync (p : Port) (r : Request) (s : State) : (postWrite p r s).sync = s.sync := rfl
@[simp] theorem postWrite_events (p : Port) (r : Request) (s : State) : (postWrite p r s).events = s.events := rfl
@[simp] theorem postWrite_link (p : Port) (r : Request) (s : State) : (postWrite p r s).link = s.link := rfl
@[simp] theorem postWrite_device (p : Port) (r : Request) (s : State) : (postWrite p r s).device = s.device := rfl
@[simp] theorem postWrite_ticked (p : Port) (r : Request) (s : State) : (postWrite p r s).ticked = s.ticked := rfl
@[simp] theorem postWrite_inReset (p : Port) (r : Request) (s : State) : (postWrite p r s).inReset = s.inReset := rfl
@[simp] theorem postWrite_pending (p : Port) (r : Request) (s : State) : (postWrite p r s).pending = s.pending := rfl

@[simp] theorem loseEntry_ports (x : FaultReason) (e : PostedEntry) (s : State) : (loseEntry x s e).ports = s.ports := rfl
@[simp] theorem loseEntry_plans (x : FaultReason) (e : PostedEntry) (s : State) : (loseEntry x s e).plans = s.plans := rfl
@[simp] theorem loseEntry_check (x : FaultReason) (e : PostedEntry) (s : State) : (loseEntry x s e).check = s.check := rfl
@[simp] theorem loseEntry_sched (x : FaultReason) (e : PostedEntry) (s : State) : (loseEntry x s e).sched = s.sched := rfl
@[simp] theorem loseEntry_posted (x : FaultReason) (e : PostedEntry) (s : State) : (loseEntry x s e).posted = s.posted := rfl
@[simp] theorem loseEntry_lastWinner (x : FaultReason) (e : PostedEntry) (s : State) : (loseEntry x s e).lastWinner = s.lastWinner := rfl
@[simp] theorem loseEntry_mem (x : FaultReason) (e : PostedEntry) (s : State) : (loseEntry x s e).mem = s.mem := rfl
@[simp] theorem loseEntry_sync (x : FaultReason) (e : PostedEntry) (s : State) : (loseEntry x s e).sync = s.sync := rfl
@[simp] theorem loseEntry_link (x : FaultReason) (e : PostedEntry) (s : State) : (loseEntry x s e).link = s.link := rfl
@[simp] theorem loseEntry_device (x : FaultReason) (e : PostedEntry) (s : State) : (loseEntry x s e).device = s.device := rfl
@[simp] theorem loseEntry_ticked (x : FaultReason) (e : PostedEntry) (s : State) : (loseEntry x s e).ticked = s.ticked := rfl
@[simp] theorem loseEntry_inReset (x : FaultReason) (e : PostedEntry) (s : State) : (loseEntry x s e).inReset = s.inReset := rfl
@[simp] theorem loseEntry_out (x : FaultReason) (e : PostedEntry) (s : State) : (loseEntry x s e).out = s.out := rfl
@[simp] theorem loseEntry_pending (x : FaultReason) (e : PostedEntry) (s : State) : (loseEntry x s e).pending = s.pending := rfl

@[simp] theorem setPlanState_ports (n : PlanName) (x : PlanState) (s : State) : (setPlanState n x s).ports = s.ports := rfl
@[simp] theorem setPlanState_check (n : PlanName) (x : PlanState) (s : State) : (setPlanState n x s).check = s.check := rfl
@[simp] theorem setPlanState_sched (n : PlanName) (x : PlanState) (s : State) : (setPlanState n x s).sched = s.sched := rfl
@[simp] theorem setPlanState_posted (n : PlanName) (x : PlanState) (s : State) : (setPlanState n x s).posted = s.posted := rfl
@[simp] theorem setPlanState_lastWinner (n : PlanName) (x : PlanState) (s : State) : (setPlanState n x s).lastWinner = s.lastWinner := rfl
@[simp] theorem setPlanState_mem (n : PlanName) (x : PlanState) (s : State) : (setPlanState n x s).mem = s.mem := rfl
@[simp] theorem setPlanState_sync (n : PlanName) (x : PlanState) (s : State) : (setPlanState n x s).sync = s.sync := rfl
@[simp] theorem setPlanState_events (n : PlanName) (x : PlanState) (s : State) : (setPlanState n x s).events = s.events := rfl
@[simp] theorem setPlanState_link (n : PlanName) (x : PlanState) (s : State) : (setPlanState n x s).link = s.link := rfl
@[simp] theorem setPlanState_device (n : PlanName) (x : PlanState) (s : State) : (setPlanState n x s).device = s.device := rfl
@[simp] theorem setPlanState_ticked (n : PlanName) (x : PlanState) (s : State) : (setPlanState n x s).ticked = s.ticked := rfl
@[simp] theorem setPlanState_inReset (n : PlanName) (x : PlanState) (s : State) : (setPlanState n x s).inReset = s.inReset := rfl
@[simp] theorem setPlanState_out (n : PlanName) (x : PlanState) (s : State) : (setPlanState n x s).out = s.out := rfl
@[simp] theorem setPlanState_pending (n : PlanName) (x : PlanState) (s : State) : (setPlanState n x s).pending = s.pending := rfl

@[simp] theorem beginFrame_ports (s : State) : (beginFrame s).ports = s.ports := rfl
@[simp] theorem beginFrame_plans (s : State) : (beginFrame s).plans = s.plans := rfl
@[simp] theorem beginFrame_check (s : State) : (beginFrame s).check = s.check := rfl
@[simp] theorem beginFrame_posted (s : State) : (beginFrame s).posted = s.posted := rfl
@[simp] theorem beginFrame_lastWinner (s : State) : (beginFrame s).lastWinner = s.lastWinner := rfl
@[simp] theorem beginFrame_mem (s : State) : (beginFrame s).mem = s.mem := rfl
@[simp] theorem beginFrame_sync (s : State) : (beginFrame s).sync = s.sync := rfl
@[simp] theorem beginFrame_link (s : State) : (beginFrame s).link = s.link := rfl
@[simp] theorem beginFrame_device (s : State) : (beginFrame s).device = s.device := rfl
@[simp] theorem beginFrame_ticked (s : State) : (beginFrame s).ticked = s.ticked := rfl
@[simp] theorem beginFrame_inReset (s : State) : (beginFrame s).inReset = s.inReset := rfl
@[simp] theorem beginFrame_out (s : State) : (beginFrame s).out = s.out := rfl
@[simp] theorem beginFrame_pending (s : State) : (beginFrame s).pending = s.pending := rfl

@[simp] theorem nextFrame_ports (s : State) : (nextFrame s).ports = s.ports := rfl
@[simp] theorem nextFrame_plans (s : State) : (nextFrame s).plans = s.plans := rfl
@[simp] theorem nextFrame_check (s : State) : (nextFrame s).check = s.check := rfl
@[simp] theorem nextFrame_posted (s : State) : (nextFrame s).posted = s.posted := rfl
@[simp] theorem nextFrame_lastWinner (s : State) : (nextFrame s).lastWinner = s.lastWinner := rfl
@[simp] theorem nextFrame_mem (s : State) : (nextFrame s).mem = s.mem := rfl
@[simp] theorem nextFrame_sync (s : State) : (nextFrame s).sync = s.sync := rfl
@[simp] theorem nextFrame_events (s : State) : (nextFrame s).events = s.events := rfl
@[simp] theorem nextFrame_link (s : State) : (nextFrame s).link = s.link := rfl
@[simp] theorem nextFrame_device (s : State) : (nextFrame s).device = s.device := rfl
@[simp] theorem nextFrame_ticked (s : State) : (nextFrame s).ticked = s.ticked := rfl
@[simp] theorem nextFrame_inReset (s : State) : (nextFrame s).inReset = s.inReset := rfl
@[simp] theorem nextFrame_out (s : State) : (nextFrame s).out = s.out := rfl
@[simp] theorem nextFrame_pending (s : State) : (nextFrame s).pending = s.pending := rfl

@[simp] theorem rewind_ports (s : State) : (rewind s).ports = s.ports := rfl
@[simp] theorem rewind_plans (s : State) : (rewind s).plans = s.plans := rfl
@[simp] theorem rewind_check (s : State) : (rewind s).check = s.check := rfl
@[simp] theorem rewind_posted (s : State) : (rewind s).posted = s.posted := rfl
@[simp] theorem rewind_lastWinner (s : State) : (rewind s).lastWinner = s.lastWinner := rfl
@[simp] theorem rewind_mem (s : State) : (rewind s).mem = s.mem := rfl
@[simp] theorem rewind_sync (s : State) : (rewind s).sync = s.sync := rfl
@[simp] theorem rewind_events (s : State) : (rewind s).events = s.events := rfl
@[simp] theorem rewind_link (s : State) : (rewind s).link = s.link := rfl
@[simp] theorem rewind_device (s : State) : (rewind s).device = s.device := rfl
@[simp] theorem rewind_ticked (s : State) : (rewind s).ticked = s.ticked := rfl
@[simp] theorem rewind_inReset (s : State) : (rewind s).inReset = s.inReset := rfl
@[simp] theorem rewind_out (s : State) : (rewind s).out = s.out := rfl
@[simp] theorem rewind_pending (s : State) : (rewind s).pending = s.pending := rfl

@[simp] theorem withdrawPending_ports (s : State) : (withdrawPending s).ports = s.ports := rfl
@[simp] theorem withdrawPending_plans (s : State) : (withdrawPending s).plans = s.plans := rfl
@[simp] theorem withdrawPending_check (s : State) : (withdrawPending s).check = s.check := rfl
@[simp] theorem withdrawPending_posted (s : State) : (withdrawPending s).posted = s.posted := rfl
@[simp] theorem withdrawPending_lastWinner (s : State) : (withdrawPending s).lastWinner = s.lastWinner := rfl
@[simp] theorem withdrawPending_mem (s : State) : (withdrawPending s).mem = s.mem := rfl
@[simp] theorem withdrawPending_sync (s : State) : (withdrawPending s).sync = s.sync := rfl
@[simp] theorem withdrawPending_events (s : State) : (withdrawPending s).events = s.events := rfl
@[simp] theorem withdrawPending_link (s : State) : (withdrawPending s).link = s.link := rfl
@[simp] theorem withdrawPending_device (s : State) : (withdrawPending s).device = s.device := rfl
@[simp] theorem withdrawPending_ticked (s : State) : (withdrawPending s).ticked = s.ticked := rfl
@[simp] theorem withdrawPending_inReset (s : State) : (withdrawPending s).inReset = s.inReset := rfl
@[simp] theorem withdrawPending_out (s : State) : (withdrawPending s).out = s.out := rfl
@[simp] theorem withdrawPending_pending (s : State) : (withdrawPending s).pending = s.pending := rfl

@[simp] theorem setLastResult_ports (r : Result) (c : Byte) (s : State) : (setLastResult r c s).ports = s.ports := rfl
@[simp] theorem setLastResult_plans (r : Result) (c : Byte) (s : State) : (setLastResult r c s).plans = s.plans := rfl
@[simp] theorem setLastResult_check (r : Result) (c : Byte) (s : State) : (setLastResult r c s).check = s.check := rfl
@[simp] theorem setLastResult_sched (r : Result) (c : Byte) (s : State) : (setLastResult r c s).sched = s.sched := rfl
@[simp] theorem setLastResult_posted (r : Result) (c : Byte) (s : State) : (setLastResult r c s).posted = s.posted := rfl
@[simp] theorem setLastResult_lastWinner (r : Result) (c : Byte) (s : State) : (setLastResult r c s).lastWinner = s.lastWinner := rfl
@[simp] theorem setLastResult_mem (r : Result) (c : Byte) (s : State) : (setLastResult r c s).mem = s.mem := rfl
@[simp] theorem setLastResult_sync (r : Result) (c : Byte) (s : State) : (setLastResult r c s).sync = s.sync := rfl
@[simp] theorem setLastResult_events (r : Result) (c : Byte) (s : State) : (setLastResult r c s).events = s.events := rfl
@[simp] theorem setLastResult_device (r : Result) (c : Byte) (s : State) : (setLastResult r c s).device = s.device := rfl
@[simp] theorem setLastResult_ticked (r : Result) (c : Byte) (s : State) : (setLastResult r c s).ticked = s.ticked := rfl
@[simp] theorem setLastResult_inReset (r : Result) (c : Byte) (s : State) : (setLastResult r c s).inReset = s.inReset := rfl
@[simp] theorem setLastResult_out (r : Result) (c : Byte) (s : State) : (setLastResult r c s).out = s.out := rfl
@[simp] theorem setLastResult_pending (r : Result) (c : Byte) (s : State) : (setLastResult r c s).pending = s.pending := rfl

@[simp] theorem openResponse_ports (b : List Byte) (s : State) : (openResponse b s).ports = s.ports := rfl
@[simp] theorem openResponse_plans (b : List Byte) (s : State) : (openResponse b s).plans = s.plans := rfl
@[simp] theorem openResponse_check (b : List Byte) (s : State) : (openResponse b s).check = s.check := rfl
@[simp] theorem openResponse_sched (b : List Byte) (s : State) : (openResponse b s).sched = s.sched := rfl
@[simp] theorem openResponse_posted (b : List Byte) (s : State) : (openResponse b s).posted = s.posted := rfl
@[simp] theorem openResponse_lastWinner (b : List Byte) (s : State) : (openResponse b s).lastWinner = s.lastWinner := rfl
@[simp] theorem openResponse_mem (b : List Byte) (s : State) : (openResponse b s).mem = s.mem := rfl
@[simp] theorem openResponse_sync (b : List Byte) (s : State) : (openResponse b s).sync = s.sync := rfl
@[simp] theorem openResponse_events (b : List Byte) (s : State) : (openResponse b s).events = s.events := rfl
@[simp] theorem openResponse_device (b : List Byte) (s : State) : (openResponse b s).device = s.device := rfl
@[simp] theorem openResponse_ticked (b : List Byte) (s : State) : (openResponse b s).ticked = s.ticked := rfl
@[simp] theorem openResponse_inReset (b : List Byte) (s : State) : (openResponse b s).inReset = s.inReset := rfl
@[simp] theorem openResponse_out (b : List Byte) (s : State) : (openResponse b s).out = s.out := rfl
@[simp] theorem openResponse_pending (b : List Byte) (s : State) : (openResponse b s).pending = s.pending := rfl

@[simp] theorem receiveFrame_ports (f : List Byte) (s : State) : (receiveFrame f s).ports = s.ports := rfl
@[simp] theorem receiveFrame_plans (f : List Byte) (s : State) : (receiveFrame f s).plans = s.plans := rfl
@[simp] theorem receiveFrame_check (f : List Byte) (s : State) : (receiveFrame f s).check = s.check := rfl
@[simp] theorem receiveFrame_sched (f : List Byte) (s : State) : (receiveFrame f s).sched = s.sched := rfl
@[simp] theorem receiveFrame_posted (f : List Byte) (s : State) : (receiveFrame f s).posted = s.posted := rfl
@[simp] theorem receiveFrame_lastWinner (f : List Byte) (s : State) : (receiveFrame f s).lastWinner = s.lastWinner := rfl
@[simp] theorem receiveFrame_mem (f : List Byte) (s : State) : (receiveFrame f s).mem = s.mem := rfl
@[simp] theorem receiveFrame_sync (f : List Byte) (s : State) : (receiveFrame f s).sync = s.sync := rfl
@[simp] theorem receiveFrame_events (f : List Byte) (s : State) : (receiveFrame f s).events = s.events := rfl
@[simp] theorem receiveFrame_device (f : List Byte) (s : State) : (receiveFrame f s).device = s.device := rfl
@[simp] theorem receiveFrame_ticked (f : List Byte) (s : State) : (receiveFrame f s).ticked = s.ticked := rfl
@[simp] theorem receiveFrame_inReset (f : List Byte) (s : State) : (receiveFrame f s).inReset = s.inReset := rfl
@[simp] theorem receiveFrame_out (f : List Byte) (s : State) : (receiveFrame f s).out = s.out := rfl
@[simp] theorem receiveFrame_pending (f : List Byte) (s : State) : (receiveFrame f s).pending = s.pending := rfl

@[simp] theorem answerBadCrc_ports (c : Byte) (s : State) : (answerBadCrc c s).ports = s.ports := rfl
@[simp] theorem answerBadCrc_plans (c : Byte) (s : State) : (answerBadCrc c s).plans = s.plans := rfl
@[simp] theorem answerBadCrc_check (c : Byte) (s : State) : (answerBadCrc c s).check = s.check := rfl
@[simp] theorem answerBadCrc_sched (c : Byte) (s : State) : (answerBadCrc c s).sched = s.sched := rfl
@[simp] theorem answerBadCrc_posted (c : Byte) (s : State) : (answerBadCrc c s).posted = s.posted := rfl
@[simp] theorem answerBadCrc_lastWinner (c : Byte) (s : State) : (answerBadCrc c s).lastWinner = s.lastWinner := rfl
@[simp] theorem answerBadCrc_mem (c : Byte) (s : State) : (answerBadCrc c s).mem = s.mem := rfl
@[simp] theorem answerBadCrc_sync (c : Byte) (s : State) : (answerBadCrc c s).sync = s.sync := rfl
@[simp] theorem answerBadCrc_device (c : Byte) (s : State) : (answerBadCrc c s).device = s.device := rfl
@[simp] theorem answerBadCrc_ticked (c : Byte) (s : State) : (answerBadCrc c s).ticked = s.ticked := rfl
@[simp] theorem answerBadCrc_inReset (c : Byte) (s : State) : (answerBadCrc c s).inReset = s.inReset := rfl
@[simp] theorem answerBadCrc_out (c : Byte) (s : State) : (answerBadCrc c s).out = s.out := rfl
@[simp] theorem answerBadCrc_pending (c : Byte) (s : State) : (answerBadCrc c s).pending = s.pending := rfl

@[simp] theorem answerUnknown_ports (c : Byte) (s : State) : (answerUnknown c s).ports = s.ports := rfl
@[simp] theorem answerUnknown_plans (c : Byte) (s : State) : (answerUnknown c s).plans = s.plans := rfl
@[simp] theorem answerUnknown_check (c : Byte) (s : State) : (answerUnknown c s).check = s.check := rfl
@[simp] theorem answerUnknown_sched (c : Byte) (s : State) : (answerUnknown c s).sched = s.sched := rfl
@[simp] theorem answerUnknown_posted (c : Byte) (s : State) : (answerUnknown c s).posted = s.posted := rfl
@[simp] theorem answerUnknown_lastWinner (c : Byte) (s : State) : (answerUnknown c s).lastWinner = s.lastWinner := rfl
@[simp] theorem answerUnknown_mem (c : Byte) (s : State) : (answerUnknown c s).mem = s.mem := rfl
@[simp] theorem answerUnknown_sync (c : Byte) (s : State) : (answerUnknown c s).sync = s.sync := rfl
@[simp] theorem answerUnknown_events (c : Byte) (s : State) : (answerUnknown c s).events = s.events := rfl
@[simp] theorem answerUnknown_device (c : Byte) (s : State) : (answerUnknown c s).device = s.device := rfl
@[simp] theorem answerUnknown_ticked (c : Byte) (s : State) : (answerUnknown c s).ticked = s.ticked := rfl
@[simp] theorem answerUnknown_inReset (c : Byte) (s : State) : (answerUnknown c s).inReset = s.inReset := rfl
@[simp] theorem answerUnknown_out (c : Byte) (s : State) : (answerUnknown c s).out = s.out := rfl
@[simp] theorem answerUnknown_pending (c : Byte) (s : State) : (answerUnknown c s).pending = s.pending := rfl

@[simp] theorem setDataOut_ports (b : Byte) (s : State) : (setDataOut b s).ports = s.ports := rfl
@[simp] theorem setDataOut_plans (b : Byte) (s : State) : (setDataOut b s).plans = s.plans := rfl
@[simp] theorem setDataOut_check (b : Byte) (s : State) : (setDataOut b s).check = s.check := rfl
@[simp] theorem setDataOut_sched (b : Byte) (s : State) : (setDataOut b s).sched = s.sched := rfl
@[simp] theorem setDataOut_posted (b : Byte) (s : State) : (setDataOut b s).posted = s.posted := rfl
@[simp] theorem setDataOut_lastWinner (b : Byte) (s : State) : (setDataOut b s).lastWinner = s.lastWinner := rfl
@[simp] theorem setDataOut_mem (b : Byte) (s : State) : (setDataOut b s).mem = s.mem := rfl
@[simp] theorem setDataOut_sync (b : Byte) (s : State) : (setDataOut b s).sync = s.sync := rfl
@[simp] theorem setDataOut_events (b : Byte) (s : State) : (setDataOut b s).events = s.events := rfl
@[simp] theorem setDataOut_device (b : Byte) (s : State) : (setDataOut b s).device = s.device := rfl
@[simp] theorem setDataOut_ticked (b : Byte) (s : State) : (setDataOut b s).ticked = s.ticked := rfl
@[simp] theorem setDataOut_inReset (b : Byte) (s : State) : (setDataOut b s).inReset = s.inReset := rfl
@[simp] theorem setDataOut_out (b : Byte) (s : State) : (setDataOut b s).out = s.out := rfl
@[simp] theorem setDataOut_pending (b : Byte) (s : State) : (setDataOut b s).pending = s.pending := rfl

@[simp] theorem setSelected_ports (b : Bool) (s : State) : (setSelected b s).ports = s.ports := rfl
@[simp] theorem setSelected_plans (b : Bool) (s : State) : (setSelected b s).plans = s.plans := rfl
@[simp] theorem setSelected_check (b : Bool) (s : State) : (setSelected b s).check = s.check := rfl
@[simp] theorem setSelected_sched (b : Bool) (s : State) : (setSelected b s).sched = s.sched := rfl
@[simp] theorem setSelected_posted (b : Bool) (s : State) : (setSelected b s).posted = s.posted := rfl
@[simp] theorem setSelected_lastWinner (b : Bool) (s : State) : (setSelected b s).lastWinner = s.lastWinner := rfl
@[simp] theorem setSelected_mem (b : Bool) (s : State) : (setSelected b s).mem = s.mem := rfl
@[simp] theorem setSelected_sync (b : Bool) (s : State) : (setSelected b s).sync = s.sync := rfl
@[simp] theorem setSelected_events (b : Bool) (s : State) : (setSelected b s).events = s.events := rfl
@[simp] theorem setSelected_device (b : Bool) (s : State) : (setSelected b s).device = s.device := rfl
@[simp] theorem setSelected_ticked (b : Bool) (s : State) : (setSelected b s).ticked = s.ticked := rfl
@[simp] theorem setSelected_inReset (b : Bool) (s : State) : (setSelected b s).inReset = s.inReset := rfl
@[simp] theorem setSelected_out (b : Bool) (s : State) : (setSelected b s).out = s.out := rfl
@[simp] theorem setSelected_pending (b : Bool) (s : State) : (setSelected b s).pending = s.pending := rfl

@[simp] theorem beginTransaction_ports (s : State) : (beginTransaction s).ports = s.ports := rfl
@[simp] theorem beginTransaction_plans (s : State) : (beginTransaction s).plans = s.plans := rfl
@[simp] theorem beginTransaction_check (s : State) : (beginTransaction s).check = s.check := rfl
@[simp] theorem beginTransaction_sched (s : State) : (beginTransaction s).sched = s.sched := rfl
@[simp] theorem beginTransaction_posted (s : State) : (beginTransaction s).posted = s.posted := rfl
@[simp] theorem beginTransaction_lastWinner (s : State) : (beginTransaction s).lastWinner = s.lastWinner := rfl
@[simp] theorem beginTransaction_mem (s : State) : (beginTransaction s).mem = s.mem := rfl
@[simp] theorem beginTransaction_sync (s : State) : (beginTransaction s).sync = s.sync := rfl
@[simp] theorem beginTransaction_events (s : State) : (beginTransaction s).events = s.events := rfl
@[simp] theorem beginTransaction_device (s : State) : (beginTransaction s).device = s.device := rfl
@[simp] theorem beginTransaction_ticked (s : State) : (beginTransaction s).ticked = s.ticked := rfl
@[simp] theorem beginTransaction_inReset (s : State) : (beginTransaction s).inReset = s.inReset := rfl
@[simp] theorem beginTransaction_out (s : State) : (beginTransaction s).out = s.out := rfl
@[simp] theorem beginTransaction_pending (s : State) : (beginTransaction s).pending = s.pending := rfl

@[simp] theorem endTransaction_ports (s : State) : (endTransaction s).ports = s.ports := rfl
@[simp] theorem endTransaction_plans (s : State) : (endTransaction s).plans = s.plans := rfl
@[simp] theorem endTransaction_check (s : State) : (endTransaction s).check = s.check := rfl
@[simp] theorem endTransaction_sched (s : State) : (endTransaction s).sched = s.sched := rfl
@[simp] theorem endTransaction_posted (s : State) : (endTransaction s).posted = s.posted := rfl
@[simp] theorem endTransaction_lastWinner (s : State) : (endTransaction s).lastWinner = s.lastWinner := rfl
@[simp] theorem endTransaction_mem (s : State) : (endTransaction s).mem = s.mem := rfl
@[simp] theorem endTransaction_sync (s : State) : (endTransaction s).sync = s.sync := rfl
@[simp] theorem endTransaction_events (s : State) : (endTransaction s).events = s.events := rfl
@[simp] theorem endTransaction_device (s : State) : (endTransaction s).device = s.device := rfl
@[simp] theorem endTransaction_ticked (s : State) : (endTransaction s).ticked = s.ticked := rfl
@[simp] theorem endTransaction_inReset (s : State) : (endTransaction s).inReset = s.inReset := rfl
@[simp] theorem endTransaction_out (s : State) : (endTransaction s).out = s.out := rfl
@[simp] theorem endTransaction_pending (s : State) : (endTransaction s).pending = s.pending := rfl

@[simp] theorem truncateFrame_ports (s : State) : (truncateFrame s).ports = s.ports := rfl
@[simp] theorem truncateFrame_plans (s : State) : (truncateFrame s).plans = s.plans := rfl
@[simp] theorem truncateFrame_check (s : State) : (truncateFrame s).check = s.check := rfl
@[simp] theorem truncateFrame_sched (s : State) : (truncateFrame s).sched = s.sched := rfl
@[simp] theorem truncateFrame_posted (s : State) : (truncateFrame s).posted = s.posted := rfl
@[simp] theorem truncateFrame_lastWinner (s : State) : (truncateFrame s).lastWinner = s.lastWinner := rfl
@[simp] theorem truncateFrame_mem (s : State) : (truncateFrame s).mem = s.mem := rfl
@[simp] theorem truncateFrame_sync (s : State) : (truncateFrame s).sync = s.sync := rfl
@[simp] theorem truncateFrame_device (s : State) : (truncateFrame s).device = s.device := rfl
@[simp] theorem truncateFrame_ticked (s : State) : (truncateFrame s).ticked = s.ticked := rfl
@[simp] theorem truncateFrame_inReset (s : State) : (truncateFrame s).inReset = s.inReset := rfl
@[simp] theorem truncateFrame_out (s : State) : (truncateFrame s).out = s.out := rfl
@[simp] theorem truncateFrame_pending (s : State) : (truncateFrame s).pending = s.pending := rfl

@[simp] theorem tickAges_ports (s : State) : (tickAges s).ports = s.ports := rfl
@[simp] theorem tickAges_plans (s : State) : (tickAges s).plans = s.plans := rfl
@[simp] theorem tickAges_check (s : State) : (tickAges s).check = s.check := rfl
@[simp] theorem tickAges_sched (s : State) : (tickAges s).sched = s.sched := rfl
@[simp] theorem tickAges_posted (s : State) : (tickAges s).posted = s.posted := rfl
@[simp] theorem tickAges_lastWinner (s : State) : (tickAges s).lastWinner = s.lastWinner := rfl
@[simp] theorem tickAges_sync (s : State) : (tickAges s).sync = s.sync := rfl
@[simp] theorem tickAges_events (s : State) : (tickAges s).events = s.events := rfl
@[simp] theorem tickAges_link (s : State) : (tickAges s).link = s.link := rfl
@[simp] theorem tickAges_device (s : State) : (tickAges s).device = s.device := rfl
@[simp] theorem tickAges_ticked (s : State) : (tickAges s).ticked = s.ticked := rfl
@[simp] theorem tickAges_inReset (s : State) : (tickAges s).inReset = s.inReset := rfl
@[simp] theorem tickAges_out (s : State) : (tickAges s).out = s.out := rfl
@[simp] theorem tickAges_pending (s : State) : (tickAges s).pending = s.pending := rfl

@[simp] theorem tickMemory_ports (s : State) : (tickMemory s).ports = s.ports := rfl
@[simp] theorem tickMemory_plans (s : State) : (tickMemory s).plans = s.plans := rfl
@[simp] theorem tickMemory_check (s : State) : (tickMemory s).check = s.check := rfl
@[simp] theorem tickMemory_sched (s : State) : (tickMemory s).sched = s.sched := rfl
@[simp] theorem tickMemory_posted (s : State) : (tickMemory s).posted = s.posted := rfl
@[simp] theorem tickMemory_lastWinner (s : State) : (tickMemory s).lastWinner = s.lastWinner := rfl
@[simp] theorem tickMemory_sync (s : State) : (tickMemory s).sync = s.sync := rfl
@[simp] theorem tickMemory_events (s : State) : (tickMemory s).events = s.events := rfl
@[simp] theorem tickMemory_link (s : State) : (tickMemory s).link = s.link := rfl
@[simp] theorem tickMemory_device (s : State) : (tickMemory s).device = s.device := rfl
@[simp] theorem tickMemory_ticked (s : State) : (tickMemory s).ticked = s.ticked := rfl
@[simp] theorem tickMemory_inReset (s : State) : (tickMemory s).inReset = s.inReset := rfl
@[simp] theorem tickMemory_out (s : State) : (tickMemory s).out = s.out := rfl
@[simp] theorem tickMemory_pending (s : State) : (tickMemory s).pending = s.pending := rfl

@[simp] theorem tickCheck_ports (s : State) : (tickCheck s).ports = s.ports := rfl
@[simp] theorem tickCheck_plans (s : State) : (tickCheck s).plans = s.plans := rfl
@[simp] theorem tickCheck_sched (s : State) : (tickCheck s).sched = s.sched := rfl
@[simp] theorem tickCheck_posted (s : State) : (tickCheck s).posted = s.posted := rfl
@[simp] theorem tickCheck_lastWinner (s : State) : (tickCheck s).lastWinner = s.lastWinner := rfl
@[simp] theorem tickCheck_mem (s : State) : (tickCheck s).mem = s.mem := rfl
@[simp] theorem tickCheck_sync (s : State) : (tickCheck s).sync = s.sync := rfl
@[simp] theorem tickCheck_events (s : State) : (tickCheck s).events = s.events := rfl
@[simp] theorem tickCheck_link (s : State) : (tickCheck s).link = s.link := rfl
@[simp] theorem tickCheck_device (s : State) : (tickCheck s).device = s.device := rfl
@[simp] theorem tickCheck_ticked (s : State) : (tickCheck s).ticked = s.ticked := rfl
@[simp] theorem tickCheck_inReset (s : State) : (tickCheck s).inReset = s.inReset := rfl
@[simp] theorem tickCheck_out (s : State) : (tickCheck s).out = s.out := rfl
@[simp] theorem tickCheck_pending (s : State) : (tickCheck s).pending = s.pending := rfl

@[simp] theorem endRecovery_ports (m : MemState) (o : RecoveryOutcome) (s : State) : (endRecovery m o s).ports = s.ports := rfl
@[simp] theorem endRecovery_plans (m : MemState) (o : RecoveryOutcome) (s : State) : (endRecovery m o s).plans = s.plans := rfl
@[simp] theorem endRecovery_check (m : MemState) (o : RecoveryOutcome) (s : State) : (endRecovery m o s).check = s.check := rfl
@[simp] theorem endRecovery_sched (m : MemState) (o : RecoveryOutcome) (s : State) : (endRecovery m o s).sched = s.sched := rfl
@[simp] theorem endRecovery_posted (m : MemState) (o : RecoveryOutcome) (s : State) : (endRecovery m o s).posted = s.posted := rfl
@[simp] theorem endRecovery_lastWinner (m : MemState) (o : RecoveryOutcome) (s : State) : (endRecovery m o s).lastWinner = s.lastWinner := rfl
@[simp] theorem endRecovery_sync (m : MemState) (o : RecoveryOutcome) (s : State) : (endRecovery m o s).sync = s.sync := rfl
@[simp] theorem endRecovery_link (m : MemState) (o : RecoveryOutcome) (s : State) : (endRecovery m o s).link = s.link := rfl
@[simp] theorem endRecovery_device (m : MemState) (o : RecoveryOutcome) (s : State) : (endRecovery m o s).device = s.device := rfl
@[simp] theorem endRecovery_ticked (m : MemState) (o : RecoveryOutcome) (s : State) : (endRecovery m o s).ticked = s.ticked := rfl
@[simp] theorem endRecovery_inReset (m : MemState) (o : RecoveryOutcome) (s : State) : (endRecovery m o s).inReset = s.inReset := rfl
@[simp] theorem endRecovery_out (m : MemState) (o : RecoveryOutcome) (s : State) : (endRecovery m o s).out = s.out := rfl
@[simp] theorem endRecovery_pending (m : MemState) (o : RecoveryOutcome) (s : State) : (endRecovery m o s).pending = s.pending := rfl

@[simp] theorem setMemrdy_ports (b : Bool) (s : State) : (setMemrdy b s).ports = s.ports := rfl
@[simp] theorem setMemrdy_plans (b : Bool) (s : State) : (setMemrdy b s).plans = s.plans := rfl
@[simp] theorem setMemrdy_check (b : Bool) (s : State) : (setMemrdy b s).check = s.check := rfl
@[simp] theorem setMemrdy_sched (b : Bool) (s : State) : (setMemrdy b s).sched = s.sched := rfl
@[simp] theorem setMemrdy_posted (b : Bool) (s : State) : (setMemrdy b s).posted = s.posted := rfl
@[simp] theorem setMemrdy_lastWinner (b : Bool) (s : State) : (setMemrdy b s).lastWinner = s.lastWinner := rfl
@[simp] theorem setMemrdy_sync (b : Bool) (s : State) : (setMemrdy b s).sync = s.sync := rfl
@[simp] theorem setMemrdy_events (b : Bool) (s : State) : (setMemrdy b s).events = s.events := rfl
@[simp] theorem setMemrdy_link (b : Bool) (s : State) : (setMemrdy b s).link = s.link := rfl
@[simp] theorem setMemrdy_device (b : Bool) (s : State) : (setMemrdy b s).device = s.device := rfl
@[simp] theorem setMemrdy_ticked (b : Bool) (s : State) : (setMemrdy b s).ticked = s.ticked := rfl
@[simp] theorem setMemrdy_inReset (b : Bool) (s : State) : (setMemrdy b s).inReset = s.inReset := rfl
@[simp] theorem setMemrdy_out (b : Bool) (s : State) : (setMemrdy b s).out = s.out := rfl
@[simp] theorem setMemrdy_pending (b : Bool) (s : State) : (setMemrdy b s).pending = s.pending := rfl

@[simp] theorem rejectArrival_ports (p : Port) (r : Request) (st : Status) (x : FaultReason) (s : State) : (rejectArrival p r st x s).ports = s.ports := rfl
@[simp] theorem rejectArrival_plans (p : Port) (r : Request) (st : Status) (x : FaultReason) (s : State) : (rejectArrival p r st x s).plans = s.plans := rfl
@[simp] theorem rejectArrival_check (p : Port) (r : Request) (st : Status) (x : FaultReason) (s : State) : (rejectArrival p r st x s).check = s.check := rfl
@[simp] theorem rejectArrival_sched (p : Port) (r : Request) (st : Status) (x : FaultReason) (s : State) : (rejectArrival p r st x s).sched = s.sched := rfl
@[simp] theorem rejectArrival_posted (p : Port) (r : Request) (st : Status) (x : FaultReason) (s : State) : (rejectArrival p r st x s).posted = s.posted := rfl
@[simp] theorem rejectArrival_lastWinner (p : Port) (r : Request) (st : Status) (x : FaultReason) (s : State) : (rejectArrival p r st x s).lastWinner = s.lastWinner := rfl
@[simp] theorem rejectArrival_mem (p : Port) (r : Request) (st : Status) (x : FaultReason) (s : State) : (rejectArrival p r st x s).mem = s.mem := rfl
@[simp] theorem rejectArrival_sync (p : Port) (r : Request) (st : Status) (x : FaultReason) (s : State) : (rejectArrival p r st x s).sync = s.sync := rfl
@[simp] theorem rejectArrival_link (p : Port) (r : Request) (st : Status) (x : FaultReason) (s : State) : (rejectArrival p r st x s).link = s.link := rfl
@[simp] theorem rejectArrival_device (p : Port) (r : Request) (st : Status) (x : FaultReason) (s : State) : (rejectArrival p r st x s).device = s.device := rfl
@[simp] theorem rejectArrival_ticked (p : Port) (r : Request) (st : Status) (x : FaultReason) (s : State) : (rejectArrival p r st x s).ticked = s.ticked := rfl
@[simp] theorem rejectArrival_inReset (p : Port) (r : Request) (st : Status) (x : FaultReason) (s : State) : (rejectArrival p r st x s).inReset = s.inReset := rfl
@[simp] theorem rejectArrival_pending (p : Port) (r : Request) (st : Status) (x : FaultReason) (s : State) : (rejectArrival p r st x s).pending = s.pending := rfl

@[simp] theorem setLinkReset_plans (p : Port) (b : Bool) (s : State) : (setLinkReset p b s).plans = s.plans := rfl
@[simp] theorem setLinkReset_check (p : Port) (b : Bool) (s : State) : (setLinkReset p b s).check = s.check := rfl
@[simp] theorem setLinkReset_sched (p : Port) (b : Bool) (s : State) : (setLinkReset p b s).sched = s.sched := rfl
@[simp] theorem setLinkReset_posted (p : Port) (b : Bool) (s : State) : (setLinkReset p b s).posted = s.posted := rfl
@[simp] theorem setLinkReset_lastWinner (p : Port) (b : Bool) (s : State) : (setLinkReset p b s).lastWinner = s.lastWinner := rfl
@[simp] theorem setLinkReset_mem (p : Port) (b : Bool) (s : State) : (setLinkReset p b s).mem = s.mem := rfl
@[simp] theorem setLinkReset_sync (p : Port) (b : Bool) (s : State) : (setLinkReset p b s).sync = s.sync := rfl
@[simp] theorem setLinkReset_events (p : Port) (b : Bool) (s : State) : (setLinkReset p b s).events = s.events := rfl
@[simp] theorem setLinkReset_link (p : Port) (b : Bool) (s : State) : (setLinkReset p b s).link = s.link := rfl
@[simp] theorem setLinkReset_device (p : Port) (b : Bool) (s : State) : (setLinkReset p b s).device = s.device := rfl
@[simp] theorem setLinkReset_ticked (p : Port) (b : Bool) (s : State) : (setLinkReset p b s).ticked = s.ticked := rfl
@[simp] theorem setLinkReset_inReset (p : Port) (b : Bool) (s : State) : (setLinkReset p b s).inReset = s.inReset := rfl
@[simp] theorem setLinkReset_out (p : Port) (b : Bool) (s : State) : (setLinkReset p b s).out = s.out := rfl
@[simp] theorem setLinkReset_pending (p : Port) (b : Bool) (s : State) : (setLinkReset p b s).pending = s.pending := rfl

@[simp] theorem orphanIssues_ports (p : Port) (s : State) : (orphanIssues p s).ports = s.ports := rfl
@[simp] theorem orphanIssues_plans (p : Port) (s : State) : (orphanIssues p s).plans = s.plans := rfl
@[simp] theorem orphanIssues_check (p : Port) (s : State) : (orphanIssues p s).check = s.check := rfl
@[simp] theorem orphanIssues_sched (p : Port) (s : State) : (orphanIssues p s).sched = s.sched := rfl
@[simp] theorem orphanIssues_posted (p : Port) (s : State) : (orphanIssues p s).posted = s.posted := rfl
@[simp] theorem orphanIssues_lastWinner (p : Port) (s : State) : (orphanIssues p s).lastWinner = s.lastWinner := rfl
@[simp] theorem orphanIssues_sync (p : Port) (s : State) : (orphanIssues p s).sync = s.sync := rfl
@[simp] theorem orphanIssues_events (p : Port) (s : State) : (orphanIssues p s).events = s.events := rfl
@[simp] theorem orphanIssues_link (p : Port) (s : State) : (orphanIssues p s).link = s.link := rfl
@[simp] theorem orphanIssues_device (p : Port) (s : State) : (orphanIssues p s).device = s.device := rfl
@[simp] theorem orphanIssues_ticked (p : Port) (s : State) : (orphanIssues p s).ticked = s.ticked := rfl
@[simp] theorem orphanIssues_inReset (p : Port) (s : State) : (orphanIssues p s).inReset = s.inReset := rfl
@[simp] theorem orphanIssues_out (p : Port) (s : State) : (orphanIssues p s).out = s.out := rfl
@[simp] theorem orphanIssues_pending (p : Port) (s : State) : (orphanIssues p s).pending = s.pending := rfl

@[simp] theorem resetPort_plans (p : Port) (s : State) : (resetPort p s).plans = s.plans := rfl
@[simp] theorem resetPort_check (p : Port) (s : State) : (resetPort p s).check = s.check := rfl
@[simp] theorem resetPort_sched (p : Port) (s : State) : (resetPort p s).sched = s.sched := rfl
@[simp] theorem resetPort_posted (p : Port) (s : State) : (resetPort p s).posted = s.posted := rfl
@[simp] theorem resetPort_lastWinner (p : Port) (s : State) : (resetPort p s).lastWinner = s.lastWinner := rfl
@[simp] theorem resetPort_sync (p : Port) (s : State) : (resetPort p s).sync = s.sync := rfl
@[simp] theorem resetPort_link (p : Port) (s : State) : (resetPort p s).link = s.link := rfl
@[simp] theorem resetPort_device (p : Port) (s : State) : (resetPort p s).device = s.device := rfl
@[simp] theorem resetPort_ticked (p : Port) (s : State) : (resetPort p s).ticked = s.ticked := rfl
@[simp] theorem resetPort_inReset (p : Port) (s : State) : (resetPort p s).inReset = s.inReset := rfl
@[simp] theorem resetPort_out (p : Port) (s : State) : (resetPort p s).out = s.out := rfl
@[simp] theorem resetPort_pending (p : Port) (s : State) : (resetPort p s).pending = s.pending := rfl

@[simp] theorem issueAccess_ports (t : IssueTag) (o : Source) (k : Kind) (a : Addr) (n : Nat) (d : List Beat) (s : State) : (issueAccess t o k a n d s).ports = s.ports := rfl
@[simp] theorem issueAccess_plans (t : IssueTag) (o : Source) (k : Kind) (a : Addr) (n : Nat) (d : List Beat) (s : State) : (issueAccess t o k a n d s).plans = s.plans := rfl
@[simp] theorem issueAccess_check (t : IssueTag) (o : Source) (k : Kind) (a : Addr) (n : Nat) (d : List Beat) (s : State) : (issueAccess t o k a n d s).check = s.check := rfl
@[simp] theorem issueAccess_sched (t : IssueTag) (o : Source) (k : Kind) (a : Addr) (n : Nat) (d : List Beat) (s : State) : (issueAccess t o k a n d s).sched = s.sched := rfl
@[simp] theorem issueAccess_posted (t : IssueTag) (o : Source) (k : Kind) (a : Addr) (n : Nat) (d : List Beat) (s : State) : (issueAccess t o k a n d s).posted = s.posted := rfl
@[simp] theorem issueAccess_lastWinner (t : IssueTag) (o : Source) (k : Kind) (a : Addr) (n : Nat) (d : List Beat) (s : State) : (issueAccess t o k a n d s).lastWinner = s.lastWinner := rfl
@[simp] theorem issueAccess_sync (t : IssueTag) (o : Source) (k : Kind) (a : Addr) (n : Nat) (d : List Beat) (s : State) : (issueAccess t o k a n d s).sync = s.sync := rfl
@[simp] theorem issueAccess_events (t : IssueTag) (o : Source) (k : Kind) (a : Addr) (n : Nat) (d : List Beat) (s : State) : (issueAccess t o k a n d s).events = s.events := rfl
@[simp] theorem issueAccess_link (t : IssueTag) (o : Source) (k : Kind) (a : Addr) (n : Nat) (d : List Beat) (s : State) : (issueAccess t o k a n d s).link = s.link := rfl
@[simp] theorem issueAccess_device (t : IssueTag) (o : Source) (k : Kind) (a : Addr) (n : Nat) (d : List Beat) (s : State) : (issueAccess t o k a n d s).device = s.device := rfl
@[simp] theorem issueAccess_ticked (t : IssueTag) (o : Source) (k : Kind) (a : Addr) (n : Nat) (d : List Beat) (s : State) : (issueAccess t o k a n d s).ticked = s.ticked := rfl
@[simp] theorem issueAccess_inReset (t : IssueTag) (o : Source) (k : Kind) (a : Addr) (n : Nat) (d : List Beat) (s : State) : (issueAccess t o k a n d s).inReset = s.inReset := rfl
@[simp] theorem issueAccess_pending (t : IssueTag) (o : Source) (k : Kind) (a : Addr) (n : Nat) (d : List Beat) (s : State) : (issueAccess t o k a n d s).pending = s.pending := rfl

@[simp] theorem setSyncLevel_ports (e : SyncEdge) (s : State) : (setSyncLevel e s).ports = s.ports := rfl
@[simp] theorem setSyncLevel_plans (e : SyncEdge) (s : State) : (setSyncLevel e s).plans = s.plans := rfl
@[simp] theorem setSyncLevel_check (e : SyncEdge) (s : State) : (setSyncLevel e s).check = s.check := rfl
@[simp] theorem setSyncLevel_sched (e : SyncEdge) (s : State) : (setSyncLevel e s).sched = s.sched := rfl
@[simp] theorem setSyncLevel_posted (e : SyncEdge) (s : State) : (setSyncLevel e s).posted = s.posted := rfl
@[simp] theorem setSyncLevel_lastWinner (e : SyncEdge) (s : State) : (setSyncLevel e s).lastWinner = s.lastWinner := rfl
@[simp] theorem setSyncLevel_mem (e : SyncEdge) (s : State) : (setSyncLevel e s).mem = s.mem := rfl
@[simp] theorem setSyncLevel_events (e : SyncEdge) (s : State) : (setSyncLevel e s).events = s.events := rfl
@[simp] theorem setSyncLevel_link (e : SyncEdge) (s : State) : (setSyncLevel e s).link = s.link := rfl
@[simp] theorem setSyncLevel_device (e : SyncEdge) (s : State) : (setSyncLevel e s).device = s.device := rfl
@[simp] theorem setSyncLevel_ticked (e : SyncEdge) (s : State) : (setSyncLevel e s).ticked = s.ticked := rfl
@[simp] theorem setSyncLevel_inReset (e : SyncEdge) (s : State) : (setSyncLevel e s).inReset = s.inReset := rfl
@[simp] theorem setSyncLevel_out (e : SyncEdge) (s : State) : (setSyncLevel e s).out = s.out := rfl
@[simp] theorem setSyncLevel_pending (e : SyncEdge) (s : State) : (setSyncLevel e s).pending = s.pending := rfl

@[simp] theorem clearEvents_ports (m : BitVec 12) (s : State) : (clearEvents m s).ports = s.ports := rfl
@[simp] theorem clearEvents_plans (m : BitVec 12) (s : State) : (clearEvents m s).plans = s.plans := rfl
@[simp] theorem clearEvents_check (m : BitVec 12) (s : State) : (clearEvents m s).check = s.check := rfl
@[simp] theorem clearEvents_sched (m : BitVec 12) (s : State) : (clearEvents m s).sched = s.sched := rfl
@[simp] theorem clearEvents_posted (m : BitVec 12) (s : State) : (clearEvents m s).posted = s.posted := rfl
@[simp] theorem clearEvents_lastWinner (m : BitVec 12) (s : State) : (clearEvents m s).lastWinner = s.lastWinner := rfl
@[simp] theorem clearEvents_mem (m : BitVec 12) (s : State) : (clearEvents m s).mem = s.mem := rfl
@[simp] theorem clearEvents_sync (m : BitVec 12) (s : State) : (clearEvents m s).sync = s.sync := rfl
@[simp] theorem clearEvents_link (m : BitVec 12) (s : State) : (clearEvents m s).link = s.link := rfl
@[simp] theorem clearEvents_device (m : BitVec 12) (s : State) : (clearEvents m s).device = s.device := rfl
@[simp] theorem clearEvents_ticked (m : BitVec 12) (s : State) : (clearEvents m s).ticked = s.ticked := rfl
@[simp] theorem clearEvents_inReset (m : BitVec 12) (s : State) : (clearEvents m s).inReset = s.inReset := rfl
@[simp] theorem clearEvents_out (m : BitVec 12) (s : State) : (clearEvents m s).out = s.out := rfl
@[simp] theorem clearEvents_pending (m : BitVec 12) (s : State) : (clearEvents m s).pending = s.pending := rfl

@[simp] theorem emptyFault_ports (p : Port) (s : State) : (emptyFault p s).ports = s.ports := rfl
@[simp] theorem emptyFault_plans (p : Port) (s : State) : (emptyFault p s).plans = s.plans := rfl
@[simp] theorem emptyFault_check (p : Port) (s : State) : (emptyFault p s).check = s.check := rfl
@[simp] theorem emptyFault_sched (p : Port) (s : State) : (emptyFault p s).sched = s.sched := rfl
@[simp] theorem emptyFault_posted (p : Port) (s : State) : (emptyFault p s).posted = s.posted := rfl
@[simp] theorem emptyFault_lastWinner (p : Port) (s : State) : (emptyFault p s).lastWinner = s.lastWinner := rfl
@[simp] theorem emptyFault_mem (p : Port) (s : State) : (emptyFault p s).mem = s.mem := rfl
@[simp] theorem emptyFault_sync (p : Port) (s : State) : (emptyFault p s).sync = s.sync := rfl
@[simp] theorem emptyFault_link (p : Port) (s : State) : (emptyFault p s).link = s.link := rfl
@[simp] theorem emptyFault_device (p : Port) (s : State) : (emptyFault p s).device = s.device := rfl
@[simp] theorem emptyFault_ticked (p : Port) (s : State) : (emptyFault p s).ticked = s.ticked := rfl
@[simp] theorem emptyFault_inReset (p : Port) (s : State) : (emptyFault p s).inReset = s.inReset := rfl
@[simp] theorem emptyFault_out (p : Port) (s : State) : (emptyFault p s).out = s.out := rfl
@[simp] theorem emptyFault_pending (p : Port) (s : State) : (emptyFault p s).pending = s.pending := rfl

end Sys2Proof.Machine
end

