-- ==== Sys2Proof/Laws/Ops.lean ====
section
/-! SUPPORT. What the shared operations do, said once: how a command becomes a step, raising events and faults, clearing a
hold queue, the clearing at entries to STOPPED and FAULTED, and when something is due. -/

namespace Sys2Proof.Machine

/-! ### Steps -/

/-- A command that reaches the part out of reset. -/
theorem onEvent_of_running {f : State → State} {s : State} (h : s.inReset = false) : onEvent f s = .next (f (quiet s)) := by
  simp [onEvent, h]

/-- A command that reaches the part in reset. -/
theorem onEvent_of_inReset {f : State → State} {s : State} (h : s.inReset = true) : onEvent f s = .next (quiet s) := by
  simp [onEvent, h]

theorem onEvent_next (f : State → State) (s : State) : ∃ t, onEvent f s = .next t := ⟨_, rfl⟩

theorem frameStep_next (frame : List Byte) (f : State → State) (s : State) : ∃ t, frameStep frame f s = .next t := ⟨_, rfl⟩

theorem commandStep_next (c : Instr) (f : State → State × Reply) (s : State) : ∃ t, commandStep c f s = .next t := by
  unfold commandStep
  split
  · exact frameStep_next _ _ _
  · exact ⟨_, rfl⟩

/-- The frame can be received from where the link stands. -/
theorem canReceive_iff (frame : List Byte) (s : State) :
    canReceive frame s = true ↔ (s.link.phase = .command → s.link.frame <+: frame) := by
  unfold canReceive frameBegun
  cases h : s.link.phase <;> simp

/-- A command that can be sent takes its rule on the quiet state with the frame received. -/
theorem commandStep_of_sendable {c : Instr} {code : Byte} {operands : List Byte} {f : State → State × Reply} {s : State}
    (hc : encodeFrame c = some (code :: operands)) (h : Sendable c s) :
    commandStep c f s = .next (takeCommand code f (receiveFrame (code :: operands) (quiet s))) := by
  obtain ⟨hr, frame, hf, hp⟩ := h
  rw [hc] at hf
  obtain rfl := Option.some.inj hf
  have hcan : canReceive (code :: operands) (quiet s) = true := by
    rw [canReceive_iff]; exact hp
  unfold commandStep
  rw [hc]
  simp only [frameStep, onEvent, hr, hcan, if_true, Bool.false_eq_true, if_false]

/-- A taken command with no RESET GATE in progress is answered by its own rule (R178, R181). -/
theorem takeCommand_of_open {code : Byte} {f : State → State × Reply} {s : State} (h : s.link.resetting = false) :
    takeCommand code f s = answerCommand code (f s).2 (f s).1 := by
  simp [takeCommand, h]

/-! ### Events and faults -/

theorem raise_eq (k : EventKind) (s : State) : raise k s = { s with events := eventsWith (eventBit k) s.events } := rfl

theorem recordFault_eq (i : FaultInfo) (r : FaultRecord) : recordFault i r = bumped r i := by
  unfold recordFault bumped
  cases h : r.first <;> simp [Config.maxLaterCount]

theorem handFault_eq (p : Port) (i : FaultInfo) (s : State) :
    handFault p i s =
      let faults := s.events.faults.set p (bumped (s.events.faults.get p) i)
      { s with events := eventsWith 0x001 { s.events with faults := faults } } := by
  unfold handFault
  rw [recordFault_eq]
  rfl

/-- Raising a mask and then another is raising both. -/
theorem eventsWith_eventsWith (m n : BitVec 12) (e : EventUnit) :
    eventsWith m (eventsWith n e) = eventsWith (n ||| m) e := by
  simp [eventsWith, BitVec.or_assoc]

/-- The ALERT line follows the sets at every raise, whatever it was. -/
theorem eventsWith_alert (m : BitVec 12) (e : EventUnit) (a : Bool) :
    eventsWith m { e with alert := a } = eventsWith m e := rfl

/-! ### Clearing a hold queue -/

theorem PerPort.set_get_self {α : Type} (x : PerPort α) (p : Port) : x.set p (x.get p) = x := by cases p <;> rfl

theorem PerPort.set_set {α : Type} (x : PerPort α) (p : Port) (v w : α) : (x.set p v).set p w = x.set p w := by
  cases p <;> rfl

theorem tagsWithout_nil (l : List Tag) : tagsWithout l [] = l := by simp [tagsWithout]

theorem tagsWithout_cons (l : List Tag) (t : Tag) (ts : List Tag) :
    tagsWithout (l.filter (· != t)) ts = tagsWithout l (t :: ts) := by
  simp only [tagsWithout, List.filter_filter]
  congr 1
  funext x
  by_cases h : x = t <;> simp [h]

theorem mem_tagsWithout {l gone : List Tag} {t : Tag} : t ∈ tagsWithout l gone ↔ t ∈ l ∧ t ∉ gone := by
  simp [tagsWithout]

/-- Answers to a list of requests of a port, in the order of the list (R61). -/
theorem answer_foldl (st : Status) (p : Port) (q : List Held) (s : State) :
    q.foldl (fun t h => answer p h.tag st none t) s =
      let unit := { s.ports.get p with tags := tagsWithout (s.ports.get p).tags (q.map (·.tag)) }
      let given := s.out.responses.get p ++ q.map (fun h => refusalTo st h.tag)
      { s with ports := s.ports.set p unit, out := { s.out with responses := s.out.responses.set p given } } := by
  induction q generalizing s with
  | nil =>
    have hp : s.ports.set p { s.ports.get p with tags := (s.ports.get p).tags } = s.ports := PerPort.set_get_self _ p
    have ho : s.out.responses.set p (s.out.responses.get p) = s.out.responses := PerPort.set_get_self _ p
    simp only [List.foldl_nil, List.map_nil, tagsWithout_nil, List.append_nil, hp, ho]
  | cons h q ih =>
    rw [List.foldl_cons, ih]
    simp [answer, mapPort, give, PerPort.set_set, tagsWithout_cons, refusalTo, List.append_assoc]

/-- Clearing a hold queue: every held request answered in queue order, and no tag of the queue left (R97, R99). -/
theorem clearQueue_eq (st : Status) (p : Port) (s : State) :
    clearQueue st p s =
      let given := s.out.responses.get p ++ queueAnswers st (s.ports.get p)
      { s with
        ports := s.ports.set p (emptied (s.ports.get p))
        out := { s.out with responses := s.out.responses.set p given } } := by
  unfold clearQueue
  rw [answer_foldl]
  simp [mapPort, PerPort.set_set, emptied, queueAnswers]

/-! ### Entries to STOPPED and FAULTED -/

/-- An entry to STOPPED is `stoppedFrom` (R42, R97). -/
theorem enterStopped_eq (s : State) : enterStopped s = stoppedFrom s := by
  unfold enterStopped clearOnStop stoppedFrom
  simp only [clearQueue_eq, raise_eq]
  by_cases h : s.device.bootPass = true <;>
    simp [h, perPort, PerPort.set, PerPort.get, emptied, queueAnswers, eventBit, eventIndex, stopSchedule, eventsWith]

/-- The clearing at an entry to FAULTED: every queue emptied, every held request answered MEMFAULT (R99). -/
theorem clearOnFault_eq (s : State) :
    clearOnFault s =
      let given := perPort (fun p => s.out.responses.get p ++ queueAnswers .memFault (s.ports.get p))
      { s with
        ports := perPort (fun p => emptied (s.ports.get p))
        out := { s.out with responses := given } } := by
  unfold clearOnFault
  simp [allPorts, clearQueue_eq, perPort, PerPort.set, PerPort.get, emptied, queueAnswers]

/-! ### What a gate tick made due -/

theorem mem_allPorts (p : Port) : p ∈ allPorts := by cases p <;> simp [allPorts]

/-- The failure test finds nothing exactly when the memory port is not READY or its oldest entry is below the limit (R141). -/
theorem overdue_eq_false_iff (s : State) : overdue s = false ↔ (s.mem.state = .ready → ∀ e, s.mem.issueList.head? = some e →
    s.device.limit = 0 ∨ e.age < s.device.limit) := by
  unfold overdue
  cases s.mem.issueList <;> simp
  grind

/-- No walk, no deadline, no check, no failure, no recovery and no reset step is due exactly when nothing is (log entry 4). -/
theorem somethingDue_eq_false_iff (s : State) : somethingDue s = false ↔ NothingDue s := by
  simp only [somethingDue, NothingDue, Bool.or_eq_false_iff, overdue_eq_false_iff, List.any_eq_false, Option.any_eq_false,
    beq_iff_eq, beq_eq_false_iff_ne, Bool.not_eq_true, mem_allPorts, true_implies, and_assoc, ne_eq]

/-- A fold whose every step leaves the state as it is. -/
theorem foldl_fixed {α β : Type} {f : β → α → β} {l : List α} {b : β} (h : ∀ a ∈ l, f b a = b) : l.foldl f b = b := by
  induction l with
  | nil => rfl
  | cons a l ih => rw [List.foldl_cons, h a (by simp)]; exact ih fun x hx => h x (by simp [hx])

/-- With nothing due there is nothing to take. -/
theorem takeDue_of_nothingDue {s : State} (h : NothingDue s) : takeDue s = s := by
  obtain ⟨hw, hd, hc, hm, hp, hr, hs⟩ := h
  have h1 : takeOwedWalk s = s := by simp [takeOwedWalk, hw]
  have h2 : expireAll s = s := foldl_fixed fun p _ => foldl_fixed fun _ _ => by
    have hf : (s.ports.get p).queue.find? expired = none := by simpa [expired] using hd p
    simp [expireOne, hf]
  have h3 : completeCheck s = s := by
    unfold completeCheck
    split
    · rename_i h; cases hc _ h
    · rfl
  have h4 : timeoutTest s = s := by simp [timeoutTest, (overdue_eq_false_iff s).mpr hm]
  simp [takeDue, h1, h2, h3, h4, endPulse, expireReadyWait, takeResetStep, hp, hr, hs]

end Sys2Proof.Machine
end

