-- ==== Sys2Proof/Laws/PerInstr.lean ====
section
/-! SUPPORT. One statement for every command, one lemma for each constructor of `Instr`: the frame a command encodes to
is complete, so that the byte after it is its CRC byte (R176, Table 11-2). -/

namespace Sys2Proof.Laws.FrameComplete

/-- The frame of a command, if it has one, has the operand bytes Table 11-2 gives its code. -/
def Statement (i : Instr) : Prop := ∀ frame, encodeFrame i = some frame → frameComplete frame = true

theorem por : Statement .por := by intro frame h; cases h
theorem rst : Statement .rst := by intro frame h; cases h
theorem linkReset : ∀ p, Statement (.linkReset p) := by intro _ frame h; cases h
theorem linkResetRelease : ∀ p, Statement (.linkResetRelease p) := by intro _ frame h; cases h
theorem gateTick : Statement .gateTick := by intro frame h; cases h
theorem windowExpiry : Statement .windowExpiry := by intro frame h; cases h
theorem holdLimitExpiry : ∀ p, Statement (.holdLimitExpiry p) := by intro _ frame h; cases h
theorem checkCompletion : Statement .checkCompletion := by intro frame h; cases h
theorem timeout : Statement .timeout := by intro frame h; cases h
theorem recoveryPulseEnd : ∀ memrdy, Statement (.recoveryPulseEnd memrdy) := by intro _ frame h; cases h
theorem memrdyAsserted : Statement .memrdyAsserted := by intro frame h; cases h
theorem readyWaitExpiry : Statement .readyWaitExpiry := by intro frame h; cases h
theorem resetStep : Statement .resetStep := by intro frame h; cases h
theorem syncEdge : ∀ e, Statement (.syncEdge e) := by intro _ frame h; cases h
theorem requestArrival : ∀ p r, Statement (.requestArrival p r) := by intro _ _ frame h; cases h
theorem grant : ∀ memReady, Statement (.grant memReady) := by intro _ frame h; cases h
theorem memoryResponse : ∀ m, Statement (.memoryResponse m) := by intro _ frame h; cases h
theorem chipSelectFall : Statement .chipSelectFall := by intro frame h; cases h
theorem chipSelectRise : ∀ edges, Statement (.chipSelectRise edges) := by intro _ frame h; cases h
theorem badCrc : ∀ frame crc, Statement (.badCrc frame crc) := by intro _ _ frame h; cases h
theorem unknown : ∀ code, Statement (.unknown code) := by intro _ frame h; cases h
theorem status : Statement .status := by intro frame h; obtain rfl := Option.some.inj h; rfl
theorem takeEvents : ∀ mask, Statement (.takeEvents mask) := by intro _ frame h; obtain rfl := Option.some.inj h; rfl
theorem readFault : ∀ port take, Statement (.readFault port take) := by intro _ _ frame h; obtain rfl := Option.some.inj h; rfl
theorem readSync : ∀ take, Statement (.readSync take) := by intro _ frame h; obtain rfl := Option.some.inj h; rfl
theorem readRecoveryReport : Statement .readRecoveryReport := by intro frame h; obtain rfl := Option.some.inj h; rfl
theorem setAlerts : ∀ kinds, Statement (.setAlerts kinds) := by intro _ frame h; obtain rfl := Option.some.inj h; rfl
theorem setDevice : ∀ divider limit pulse bootPass, Statement (.setDevice divider limit pulse bootPass) := by intro _ _ _ _ frame h; obtain rfl := Option.some.inj h; rfl
theorem setSync : ∀ mode edge limit, Statement (.setSync mode edge limit) := by intro _ _ _ frame h; obtain rfl := Option.some.inj h; rfl
theorem writeWindow : ∀ plan index length openSet drain, Statement (.writeWindow plan index length openSet drain) := by intro _ _ _ _ _ frame h; obtain rfl := Option.some.inj h; rfl
theorem setWindowCount : ∀ plan count, Statement (.setWindowCount plan count) := by intro _ _ frame h; obtain rfl := Option.some.inj h; rfl
theorem writeRegion : ∀ plan index base size rights posting, Statement (.writeRegion plan index base size rights posting) := by intro _ _ _ _ _ _ frame h; obtain rfl := Option.some.inj h; rfl
theorem setRegionCount : ∀ plan count, Statement (.setRegionCount plan count) := by intro _ _ frame h; obtain rfl := Option.some.inj h; rfl
theorem writePortSettings : ∀ plan port holdLimit quota, Statement (.writePortSettings plan port holdLimit quota) := by intro _ _ _ _ frame h; obtain rfl := Option.some.inj h; rfl
theorem writeCosts : ∀ plan overhead beatCost, Statement (.writeCosts plan overhead beatCost) := by intro _ _ _ frame h; obtain rfl := Option.some.inj h; rfl
theorem readPlanItem : ∀ plan item index, Statement (.readPlanItem plan item index) := by intro _ _ _ frame h; obtain rfl := Option.some.inj h; rfl
theorem copyPlan : Statement .copyPlan := by intro frame h; obtain rfl := Option.some.inj h; rfl
theorem checkPlan : ∀ plan, Statement (.checkPlan plan) := by intro _ frame h; obtain rfl := Option.some.inj h; rfl
theorem requestSwap : ∀ plan, Statement (.requestSwap plan) := by intro _ frame h; obtain rfl := Option.some.inj h; rfl
theorem withdrawSwap : Statement .withdrawSwap := by intro frame h; obtain rfl := Option.some.inj h; rfl
theorem start : ∀ mode, Statement (.start mode) := by intro _ frame h; obtain rfl := Option.some.inj h; rfl
theorem halt : Statement .halt := by intro frame h; obtain rfl := Option.some.inj h; rfl
theorem haltNow : Statement .haltNow := by intro frame h; obtain rfl := Option.some.inj h; rfl
theorem recover : Statement .recover := by intro frame h; obtain rfl := Option.some.inj h; rfl
theorem resetGate : Statement .resetGate := by intro frame h; obtain rfl := Option.some.inj h; rfl
theorem linkByte : ∀ b, Statement (.linkByte b) := by intro _ frame h; cases h
theorem resetRelease : Statement .resetRelease := by intro frame h; cases h

end Sys2Proof.Laws.FrameComplete
end

