-- ==== Sys2Proof/Tests/Slice0.lean ====
section
/-! SUPPORT. Tests: ill-formed commands refused, words from the manual's tables, single steps of the manual's worked
sequences, and for each statement with hypotheses a named state and operands that meet them, at the ends of their
ranges. -/

namespace Sys2Proof.Tests
open Sys2Proof.Machine

-- One theorem at a time: many kernel evaluations at once take a thread, and a thread's stack, each.
set_option Elab.async false

/-! ### Small states -/

/-- Plan B of Table 12-1, with the state it has in sequence 2. -/
def planB : Plan :=
  { Plan.powerOn with
    windowCount := 3
    windows := ((Plan.powerOn.windows.setIfInBounds 0 ⟨120, 0b0110, false⟩).setIfInBounds 1 ⟨100, 0b1000, false⟩).setIfInBounds
      2 ⟨30, 0, true⟩
    regionCount := 1
    regions := Plan.powerOn.regions.setIfInBounds 0 ⟨0, 0x10000, ⟨.none, .readWrite, .readWrite, .readWrite⟩, true⟩
    settings := ⟨⟨0, 0⟩, ⟨300, 0⟩, ⟨300, 0⟩, ⟨0, 4⟩⟩
    overhead := 4
    beatCost := 2
    derived := ⟨⟨0, 120, 120, 100⟩, ⟨30, 120, 120, 100⟩, 250⟩
    report := .passed ⟨false, false, false, false⟩ false
    state := .active }

/-- Plan B in RUNNING at a window and an offset of frame 20. -/
def at_ (window offset : Nat) : State :=
  { State.reset with
    plans := ⟨{ planB with state := .ready }, planB⟩
    sched := { Schedule.initial with
      gate := .running, window := window, offset := offset, frame := 20, openLines := (windowAt planB window).openSet } }

/-- The gate in a state, with plan B ACTIVE. -/
def stood (gate : GateState) : State := { at_ 0 0 with sched := { Schedule.initial with gate := gate } }

/-- A held READ of 8 beats of P1, as at tick 0 of Table 12-3. -/
def held : Held := ⟨1, .read, 0x1000, 8, [], some 20, some 300⟩

/-- The posted entry e3 of Table 12-3. -/
def e3 : PostedEntry := ⟨.p3, 3, 0x8000, 4, List.replicate 4 ⟨0, 0xFF⟩, some .b, .waiting⟩

/-- P1 holds a READ, and P3 has a posted write. -/
def busy (window offset : Nat) : State :=
  { at_ window offset with ports := State.reset.ports.set .p1 ⟨[1], [held], false⟩, posted := [e3] }

/-- As at tick 149 of sequence 4: P1 tag 4 and e1 issued, e2 waiting, P1 tag 5 held. -/
def issued : State :=
  { at_ 1 30 with
    ports := State.reset.ports.set .p1 ⟨[4, 5], [{ held with tag := 5 }], false⟩
    posted := [{ e3 with tag := 1, state := .inFlight 1 }, { e3 with tag := 2, addr := 0x9000 }]
    mem := { State.reset.mem with issueList :=
      [⟨0, .port .p1 4, .read, 0x1000, 4, 50, false⟩, ⟨1, .posted, .write, 0x8000, 4, 30, false⟩] }
    device := { Device.initial with limit := 50 } }

/-- The gate FAULTED with e2 still in the buffer. -/
def faulted : State :=
  { stood .faulted with posted := [e3], mem := { State.reset.mem with state := .failed, report := ⟨some .timeout, some 40, 1, 1, .none⟩ } }

/-- RESET GATE in progress with the drain ended. -/
def drained : State := { stood .stopped with link := { State.reset.link with resetting := true, resetDue := true } }

/-- A transaction in COMMAND with these bytes received. -/
def receiving (frame : List Byte) (s : State) : State :=
  { s with link := { s.link with phase := .command, selected := true, frame := frame } }

/-- The sync unit in a mode with a limit. -/
def synced (mode : SyncMode) (limit : Nat) (s : State) : State :=
  { s with sync := { s.sync with mode := mode, limit := limit } }

/-- The next state of an outcome. -/
def after (o : Host.Outcome State Fault Refusal) : State :=
  match o with
  | .next t => t
  | _ => State.reset

/-- A READ. -/
def read (beats : Nat) (a : Addr) : Request := ⟨6, .read, a, beats, []⟩

/-- A WRITE. -/
def write (beats : Nat) (a : Addr) : Request := ⟨7, .write, a, beats, List.replicate beats ⟨0, 0xFF⟩⟩

/-! ### Deciding the laws on a state -/

/-- A property of every port, decided port by port. -/
@[reducible] def decPorts {P : Port → Prop} [∀ p, Decidable (P p)] : Decidable (∀ p, P p) :=
  decidable_of_iff (P .p0 ∧ P .p1 ∧ P .p2 ∧ P .p3)
    ⟨fun ⟨a, b, c, d⟩ p => by cases p <;> assumption, fun h => ⟨h _, h _, h _, h _⟩⟩

/-- A property of both plans. -/
@[reducible] def decPlans {P : PlanName → Prop} [∀ p, Decidable (P p)] : Decidable (∀ p, P p) :=
  decidable_of_iff (P .a ∧ P .b) ⟨fun ⟨a, b⟩ p => by cases p <;> assumption, fun h => ⟨h _, h _⟩⟩

/-- A property of the value of an option, if it has one. -/
@[reducible] def decSome {α : Type} {P : α → Prop} [∀ a, Decidable (P a)] (o : Option α) : Decidable (∀ a, o = some a → P a) :=
  match o with
  | none => .isTrue (by simp)
  | some a => decidable_of_iff (P a) ⟨fun h b hb => by cases hb; exact h, fun h => h a rfl⟩

/-- A recovery in its pulse. -/
@[reducible] def decPulse (r : Recovery) : Decidable (∃ n, r = .pulse n) :=
  match r with
  | .pulse n => .isTrue ⟨n, rfl⟩
  | .idle => .isFalse (by simp)
  | .wait _ => .isFalse (by simp)

/-- An EDIT plan's report is not PASSED. -/
@[reducible] def decReport (p : Plan) (st : PlanState) : Decidable (∀ u w, p.state = st → p.report ≠ .passed u w) :=
  if h : p.state = st then
    match p.report with
    | .none => .isTrue (by simp)
    | .failed _ => .isTrue (by simp)
    | .passed u w => .isFalse (fun k => k u w h rfl)
  else .isTrue (fun _ _ k => absurd k h)

def decTag (s : State) : Decidable (TagLaw s) := by
  haveI := @decPorts; unfold TagLaw; infer_instance

def decBuffer (s : State) : Decidable (BufferLaw s) := by
  haveI := @decPorts; unfold BufferLaw; infer_instance

def decGate (s : State) : Decidable (GateLaw s) := by
  haveI := @decPorts; haveI := decPulse; unfold GateLaw QueueLaw; infer_instance

def decProgress (p : Plan) (c : CheckRun) : Decidable (CheckProgress p c) := by
  unfold CheckProgress; split <;> infer_instance

def decPlan (s : State) : Decidable (PlanLaw s) := by
  haveI := @decPlans; haveI := @decSome; haveI := decReport; haveI := decProgress
  unfold PlanLaw SoundPlan; infer_instance

def decSchedule (s : State) : Decidable (ScheduleLaw s) := by unfold ScheduleLaw; infer_instance

def decHeld (s : State) : Decidable (HeldLaw s) := by
  haveI := @decPorts; unfold HeldLaw InRegion; infer_instance

def decPosting (s : State) : Decidable (PostingLaw s) := by
  haveI := @decSome; unfold PostingLaw; infer_instance

def decReportRange (r : Report) : Decidable (ReportRange r) := by
  unfold ReportRange; split <;> infer_instance

def decPlanRange (p : Plan) : Decidable (PlanRange p) := by
  haveI := @decPorts; haveI := decReportRange; unfold PlanRange DerivedRange; infer_instance

def decSpan (a : Addr) (n : Nat) : Decidable (SpanRange a n) := by unfold SpanRange; infer_instance

def decData (k : Kind) (n : Nat) (d : List Beat) : Decidable (DataRange k n d) := by unfold DataRange; infer_instance

def decRange (s : State) : Decidable (RangeLaw s) := by
  haveI := @decPorts; haveI := @decPlans; haveI := @decSome; haveI := decPlanRange; haveI := decSpan; haveI := decData
  unfold RangeLaw; infer_instance

/-- The kinds of event. -/
def kinds : List EventKind :=
  [.accessFault, .postedLost, .memoryFailed, .recoveryDone, .checkDone, .swapDone, .gateStopped, .syncCaptured, .syncLost,
   .frameStart, .portReset, .linkError]

def decAlert (s : State) : Decidable (AlertLaw s) :=
  decidable_of_iff (s.events.alert = true ↔
    ∃ k ∈ kinds, s.events.set.getLsbD (eventIndex k) = true ∧ s.events.enabled.getLsbD (eventIndex k) = true) (by
      unfold AlertLaw
      refine iff_congr Iff.rfl ⟨fun ⟨k, _, h⟩ => ⟨k, h⟩, fun ⟨k, h⟩ => ⟨k, ?_, h⟩⟩
      cases k <;> simp [kinds])

def decLink (s : State) : Decidable (LinkLaw s) := by unfold LinkLaw; infer_instance

def decLawful (s : State) : Decidable (Lawful s) := by
  haveI := decTag; haveI := decBuffer; haveI := decGate; haveI := decPlan; haveI := decSchedule; haveI := decHeld
  haveI := decPosting; haveI := decRange; haveI := decAlert; haveI := decLink
  unfold Lawful; infer_instance

/-- Lawful, by evaluation. -/
theorem lawful_of (s : State) (h : @decide (Lawful s) (decLawful s) = true) : Lawful s := @of_decide_eq_true _ (decLawful s) h

theorem test_at_lawful : Lawful (at_ 0 0) := lawful_of _ (by decide +kernel)

/-! ### Ill-formed commands are refused -/

theorem test_wellformed_no_beats : (Instr.requestArrival .p0 (read 0 0)).wellFormed = false := by decide

theorem test_wellformed_seventeen_beats : (Instr.requestArrival .p0 (read 17 0)).wellFormed = false := by decide

theorem test_wellformed_read_with_data : (Instr.requestArrival .p0 { write 1 0 with kind := .read }).wellFormed = false := by decide

theorem test_wellformed_write_short_of_data : (Instr.requestArrival .p0 { write 1 0 with beats := 2 }).wellFormed = false := by
  decide

theorem test_wellformed_bad_crc_incomplete : (Instr.badCrc [0x22] 0x00).wellFormed = false := by decide +kernel

theorem test_wellformed_bad_crc_matching : (Instr.badCrc [0x22, 0x00] 0x84).wellFormed = false := by decide +kernel

theorem test_wellformed_unknown_code_known : (Instr.unknown 0x22).wellFormed = false := by decide +kernel

theorem test_wellformed_accepts : (Instr.requestArrival .p0 (write 16 0)).wellFormed = true
    ∧ (Instr.badCrc [0x22, 0x00] 0x85).wellFormed = true ∧ (Instr.unknown 0x1F).wellFormed = true := by decide +kernel

/-! ### Frames, from Tables 11-2 and 11-3 -/

/-- No row of the table gives bits. -/
theorem test_no_word_spells_a_command : decodeTableWord 8 0x01 = none := rfl

/-- WRITE WINDOW A, 0, 400 ticks, open to P0 and P1, no drain. -/
theorem test_frame_write_window :
    decodeFrame [0x10, 0x00, 0x00, 0x01, 0x90, 0x03, 0x00] = some (.writeWindow 0 0 400 0b0011 0) := by decide +kernel

/-- WRITE REGION A, 1, base 0x00010000, 16 KiB, P2 and P3 READ_WRITE, posting yes. -/
theorem test_frame_write_region :
    decodeFrame [0x12, 0x00, 0x01, 0x00, 0x01, 0x00, 0x00, 0x00, 0x00, 0x00, 0x40, 0x00, 0xA0, 0x01]
      = some (.writeRegion 0 1 0x00010000 0x4000 0xA0 1) := by decide +kernel

/-- SET DEVICE with divider 2, limit 50, pulse 16, boot pass on. -/
theorem test_frame_set_device : encodeFrame (.setDevice 0x01 50 16 1) = some [0x09, 0x01, 0x00, 0x32, 0x10, 0x01] := by decide +kernel

/-! ### Steps of the manual's worked sequences -/

/-- Table 12-2 step 1: boot-pass traffic is held with no cost and no deadline. -/
theorem test_boot_pass_holds :
    (after (exec (.requestArrival .p0 (read 16 0)) State.reset)).ports.p0.queue = [⟨6, .read, 0, 16, [], none, none⟩] := by decide +kernel

/-- Table 12-3 tick 0: after the last winner RETIRE, P0 is passed and P1 granted under issue tag 0. -/
theorem test_grant_port :
    (after (exec (.grant true) (busy 0 0))).mem.issueList = [⟨0, .port .p1 1, .read, 0x1000, 8, 0, false⟩] := by decide +kernel

/-- Table 12-3 tick 100: no contender is eligible with a cost of 36 above the 20 ticks remaining. -/
theorem test_grant_none :
    let s := busy 0 100
    (after (exec (.grant true) { s with
      ports := s.ports.set .p1 ⟨[7], [{ held with tag := 7, beats := 16, cost := some 36 }], false⟩ })).mem.issueList = [] := by
  decide +kernel

/-- Table 12-3 tick 225: window 2 is a drain window and e4's cost of 20 is not above the 25 ticks remaining. -/
theorem test_grant_retire :
    let s := at_ 2 5
    (after (exec (.grant true) { s with posted := [{ e3 with tag := 4, beats := 8, addr := 0x8100 }] })).mem.issueList
      = [⟨0, .posted, .write, 0x8100, 8, 0, false⟩] := by decide +kernel

/-- Table 12-3 tick 25: a P3 WRITE of 4 beats in window 0 is posted with OKAY, posted=yes. -/
theorem test_arrival_posted :
    (after (exec (.requestArrival .p3 (write 4 0x8000)) (at_ 0 25))).out.responses.p3 = [⟨7, .okay, true, none⟩] := by decide +kernel

/-- Table 12-3 tick 90: a P1 READ of 16 beats costs 36 and joins with a deadline of 300. -/
theorem test_arrival_held :
    (after (exec (.requestArrival .p1 (read 16 0x400)) (at_ 0 90))).ports.p1.queue
      = [⟨6, .read, 0x400, 16, [], some 36, some 300⟩] := by decide +kernel

/-- Table 12-3 tick 12: the memory's OK answers the request OKAY with its beats. -/
theorem test_memory_ok :
    (after (exec (.memoryResponse ⟨0, true, [1, 2, 3, 4, 5]⟩) issued)).out.responses.p1
      = [⟨4, .okay, false, some [1, 2, 3, 4]⟩] := by decide +kernel

/-- Table 12-5: the report of the timeout is TIMEOUT, frame 20, lost 1, answered 1, NONE. -/
theorem test_timeout_report :
    (after (exec .timeout issued)).mem.report = ⟨some .timeout, some 20, 1, 1, .none⟩ := by decide +kernel

/-- Table 12-5: P3's record takes POSTED_ABANDONED. -/
theorem test_timeout_fault : ((after (exec .timeout issued)).events.faults.p3.first.map (·.reason)) = some .postedAbandoned := by
  decide +kernel

/-- Table 1-9 step 17: a write to an ACTIVE plan is PLAN_ACTIVE. -/
theorem test_write_costs_active : (after (exec (.writeCosts 1 0 1) (stood .stopped))).link.lastResult = .planActive := by decide +kernel

/-- R29: with no command waiting, the tick that would take the offset to the length of window 0 leaves window 1 at offset 0. -/
theorem test_clock_enters_window :
    ((after (step (at_ 0 119))).sched.window, (after (step (at_ 0 119))).sched.offset) = (1, 0) := by decide +kernel

/-- R44: with no command waiting, FRAME is asserted at the tick of the frame boundary, and ends at the next tick. -/
theorem test_clock_pulses_frame :
    let t := after (step (at_ 2 29))
    (t.sched.frame, t.sched.openLines, t.sched.frameLine, (after (step t)).sched.frameLine) = (21, 0b0110, true, false) := by
  decide +kernel

/-- R177: the response to a command DONE with no data is two bytes of 0x00. -/
theorem test_done_response : (after (exec .withdrawSwap (stood .stopped))).link.response = [0x00, 0x00] := by decide +kernel

/-! ### Witnesses: the laws and the whole part -/

theorem open_idle {c : Instr} {s : State} (h : s.inReset = false) (hf : (encodeFrame c).isSome = true)
    (hp : s.link.phase = .idle) (hr : s.link.resetting = false) : Open c s := by
  obtain ⟨f, hf⟩ := Option.isSome_iff_exists.mp hf
  exact ⟨⟨h, f, hf, fun hc => by rw [hp] at hc; cases hc⟩, hr⟩

theorem test_busy_lawful : Lawful (busy 0 0) := lawful_of _ (by decide +kernel)

theorem test_busy_late_lawful : Lawful (busy 1 0) := lawful_of _ (by decide +kernel)

theorem test_issued_lawful : Lawful issued := lawful_of _ (by decide +kernel)

theorem test_faulted_lawful : Lawful faulted := lawful_of _ (by decide +kernel)

theorem test_drained_lawful : Lawful drained := lawful_of _ (by decide +kernel)

theorem witness_PinResetsClearThePart : ({ State.reset with inReset := true } : State).inReset = true := rfl

/-- TIMEOUT is a command that moves no pin. -/
theorem witness_CommandsInResetMoveOnlyPins :
    ({ issued with inReset := true } : State).inReset = true ∧ ({ issued with inReset := true } : State).pending = []
      ∧ (∀ p, Instr.timeout ≠ .linkReset p ∧ Instr.timeout ≠ .linkResetRelease p) ∧ (∀ e, Instr.timeout ≠ .syncEdge e)
      ∧ Instr.timeout ≠ .memrdyAsserted ∧ Instr.timeout ≠ .chipSelectFall ∧ (∀ edges, Instr.timeout ≠ .chipSelectRise edges)
      ∧ Instr.timeout ≠ .por ∧ Instr.timeout ≠ .rst ∧ Instr.timeout ≠ .resetRelease :=
  ⟨rfl, rfl, fun _ => ⟨nofun, nofun⟩, nofun, nofun, nofun, nofun, nofun, nofun, nofun⟩

theorem witness_LinkResetForgetsThePort : issued.inReset = false ∧ (issued.ports.get .p1).linkReset = false := by decide +kernel

theorem witness_FramesAndCommandsAgree :
    encodeFrame (.writeRegion 0xFF 0xFF 0xFFFFFFFF 0xFFFFFFFFFF 0xFF 0xFF) = some (0x12 :: List.replicate 13 0xFF)
      ∧ decodeFrame (0x12 :: List.replicate 13 0xFF) = some (.writeRegion 0xFF 0xFF 0xFFFFFFFF 0xFFFFFFFFFF 0xFF 0xFF) := by
  decide +kernel

theorem witness_BytesMakeTheCommand :
    let s := receiving [] (busy 0 0)
    encodeFrame .haltNow = some [0x24] ∧ s.inReset = false ∧ s.link.phase = .command ∧ s.link.selected = true
      ∧ s.link.frame = [] ∧ s.link.response = [] := by decide +kernel

theorem witness_LinkFollowsItsTransactionState :
    let s := busy 0 0
    (s.inReset = false ∧ s.link.selected = false ∧ s.link.phase = .idle)
      ∧ (let r := receiving [] s
         r.link.selected = true ∧ r.link.phase = .command ∧ r.link.frame = [] ∧ frameComplete r.link.frame = false)
      ∧ ((1 : Fin 8) ≠ 0 ∧ (receiving [0x22] s).link.frame ≠ [])
      ∧ (frameComplete (receiving [0x22, 0x00] s).link.frame = true ∧ crc8 [0x22, 0x00] ≠ 0x85)
      ∧ ((receiving [0x27] s).link.frame = [0x27] ∧ commandRow 0x27 = none ∧ crc8 [0x27] = 0xF5)
      ∧ (let r : State := { s with link := { s.link with phase := .response, response := [0x00] } }
         r.link.phase = .response ∧ r.link.response = 0x00 :: [])
      ∧ (let r : State := { s with link := { s.link with phase := .trail } }
         r.inReset = false ∧ r.link.phase = .trail) := by decide +kernel

theorem witness_BadFramesCarryOutNothing :
    let s := receiving [0x22] (busy 0 0)
    s.inReset = false ∧ [0x00#8].length = operandLength 0x22 ∧ crc8 [0x22, 0x00] ≠ 0x85
      ∧ (s.link.phase = .command → s.link.frame <+: [0x22, 0x00])
      ∧ commandRow 0x27 = none ∧ ((receiving [0x27] s).link.phase = .command → (receiving [0x27] s).link.frame <+: [0x27]) := by
  decide +kernel

theorem witness_ResetGateMakesCommandsBusy : encodeFrame .recover = some [0x25] ∧ Instr.recover ≠ .status
    ∧ Sendable .recover drained ∧ drained.link.resetting = true :=
  ⟨rfl, nofun, ⟨rfl, _, rfl, nofun⟩, rfl⟩

theorem witness_StepKeepsTheTagLaw : TagLaw (busy 0 0) ∧ ∃ t, step (busy 0 0) = .next t := ⟨test_busy_lawful.1, _, rfl⟩

theorem witness_StepKeepsTheBufferLaw : BufferLaw issued ∧ ∃ t, step { issued with pending := [.timeout] } = .next t :=
  ⟨test_issued_lawful.2.1, _, rfl⟩

theorem witness_StepKeepsTheGateLaw : GateLaw faulted ∧ ∃ t, step { faulted with pending := [.recover] } = .next t :=
  ⟨test_faulted_lawful.2.2.1, _, rfl⟩

theorem witness_StepKeepsThePlanLaw : GateLaw (busy 0 0) ∧ PlanLaw (busy 0 0) ∧ ∃ t, step (busy 0 0) = .next t :=
  ⟨test_busy_lawful.2.2.1, test_busy_lawful.2.2.2.1, _, rfl⟩

theorem witness_StepKeepsTheScheduleLaw :
    GateLaw (busy 0 0) ∧ PlanLaw (busy 0 0) ∧ ScheduleLaw (busy 0 0) ∧ ∃ t, step (busy 0 0) = .next t :=
  ⟨test_busy_lawful.2.2.1, test_busy_lawful.2.2.2.1, test_busy_lawful.2.2.2.2.1, _, rfl⟩

theorem witness_StepKeepsTheTrafficLaws :
    GateLaw (busy 0 0) ∧ PlanLaw (busy 0 0) ∧ HeldLaw (busy 0 0) ∧ PostingLaw (busy 0 0) ∧ ∃ t, step (busy 0 0) = .next t :=
  ⟨test_busy_lawful.2.2.1, test_busy_lawful.2.2.2.1, test_busy_lawful.2.2.2.2.2.1, test_busy_lawful.2.2.2.2.2.2.1, _, rfl⟩

theorem witness_StepKeepsTheRanges : Lawful issued ∧ ∃ t, step issued = .next t := ⟨test_issued_lawful, _, rfl⟩

theorem witness_StepKeepsTheAlertLaw : AlertLaw issued ∧ ∃ t, step issued = .next t :=
  ⟨test_issued_lawful.2.2.2.2.2.2.2.2.1, _, rfl⟩

theorem witness_StepKeepsTheLinkLaw : LinkLaw issued ∧ ∃ t, step issued = .next t :=
  ⟨test_issued_lawful.2.2.2.2.2.2.2.2.2, _, rfl⟩

theorem witness_OnlyAGrantIssues : (∀ r, Instr.timeout ≠ .grant r) ∧ ∃ t, exec .timeout issued = .next t := ⟨nofun, _, rfl⟩

/-- The grant of P1's held READ with a posted entry of P1 at the bytes just above it. -/
theorem witness_NothingIssuedOverAPostedWrite :
    let s : State := { busy 0 0 with posted := [{ e3 with port := .p1, addr := 0x1040 }] }
    ∃ t, step { s with pending := [.grant true] } = .next t
      ∧ t.mem.issueList = s.mem.issueList ++ [⟨0, .port .p1 1, .read, 0x1000, 8, 0, false⟩] ∧ s.posted.map (·.port) = [.p1] :=
  ⟨_, rfl, by decide +kernel, rfl⟩

/-- The grant of P1 at the start of window 0, and the retirement of e3 at the start of window 1. -/
theorem witness_IssuesFitTheirWindow :
    (Lawful (busy 0 0) ∧ walking (busy 0 0) = true ∧ ∃ t e, step { busy 0 0 with pending := [.grant true] } = .next t
      ∧ t.mem.issueList = (busy 0 0).mem.issueList ++ [e] ∧ e.source = .port .p1 1)
    ∧ (Lawful (busy 1 0) ∧ walking (busy 1 0) = true ∧ ∃ t e, step { busy 1 0 with pending := [.grant true] } = .next t
      ∧ t.mem.issueList = (busy 1 0).mem.issueList ++ [e] ∧ e.source = .posted) :=
  ⟨⟨test_busy_lawful, by decide +kernel, after (exec (.grant true) (busy 0 0)),
    ⟨0, .port .p1 1, .read, 0x1000, 8, 0, false⟩, rfl, by decide +kernel, rfl⟩,
   ⟨test_busy_late_lawful, by decide +kernel, after (exec (.grant true) (busy 1 0)),
    ⟨0, .posted, .write, 0x8000, 4, 0, false⟩, rfl, by decide +kernel, rfl⟩⟩

theorem witness_IssuesLieInARegion : Lawful (busy 0 0) ∧ walking (busy 0 0) = true
    ∧ ∃ t e, step { busy 0 0 with pending := [.grant true] } = .next t
      ∧ t.mem.issueList = (busy 0 0).mem.issueList ++ [e] ∧ e.source = .port .p1 1 := witness_IssuesFitTheirWindow.1

theorem witness_HoldQueuesKeepTheirOrder : BufferLaw (busy 0 0) ∧ ∃ t e, exec (.grant true) (busy 0 0) = .next t
    ∧ t.mem.issueList = (busy 0 0).mem.issueList ++ [e] ∧ e.source = .port .p1 1 :=
  ⟨test_busy_lawful.2.1, after (exec (.grant true) (busy 0 0)), ⟨0, .port .p1 1, .read, 0x1000, 8, 0, false⟩, rfl,
    by decide +kernel, rfl⟩

theorem witness_PostedWritesKeepTheirOrder : BufferLaw (busy 1 0) ∧ ∃ t e, step { busy 1 0 with pending := [.grant true] } = .next t
    ∧ t.mem.issueList = (busy 1 0).mem.issueList ++ [e] ∧ e.source = .posted :=
  ⟨test_busy_late_lawful.2.1, witness_IssuesFitTheirWindow.2.2.2⟩

/-- The step that grants P0 in STOPPED under boot pass. -/
theorem witness_NothingIssuedByAStoppedGate :
    let s : State := { stood .stopped with ports := State.reset.ports.set .p0 ⟨[1], [⟨1, .read, 0, 1, [], none, none⟩], false⟩ }
    GateLaw s ∧ s.sched.gate = .stopped ∧ ∃ t e, step { s with pending := [.grant true] } = .next t
      ∧ t.mem.issueList = s.mem.issueList ++ [e] ∧ e.source = .port .p0 1 := by
  refine ⟨@of_decide_eq_true _ (decGate _) (by decide +kernel), rfl, ?_⟩
  exact ⟨_, ⟨0, .port .p0 1, .read, 0, 1, 0, false⟩, rfl, by decide +kernel, rfl⟩

theorem witness_ActivePlanIsFixed : GateLaw (busy 0 0) ∧ PlanLaw (busy 0 0) ∧ ((busy 0 0).plans.get .b).state = .active
    ∧ ∃ t, step (busy 0 0) = .next t ∧ (t.plans.get .b).state = .active :=
  ⟨test_busy_lawful.2.2.1, test_busy_lawful.2.2.2.1, rfl, _, rfl, by decide +kernel⟩

theorem witness_ConfigurationLeavesTheGate : leavesTheGate .copyPlan = true ∧ ∃ t, exec .copyPlan (busy 0 0) = .next t :=
  ⟨rfl, _, rfl⟩

/-- P1's tag 4 leaves the set with the memory's answer. -/
theorem witness_ResponsesFreeTheirTags : Lawful issued ∧ ∃ t, exec (.memoryResponse ⟨0, true, [1, 2, 3, 4]⟩) issued = .next t
    ∧ 4 ∈ (issued.ports.get .p1).tags ∧ 4 ∉ (t.ports.get .p1).tags ∧ (t.out.responses.get .p1).length = 1 :=
  ⟨test_issued_lawful, _, rfl, by decide +kernel, by decide +kernel, by decide +kernel⟩

/-- The posted write e1 leaves the buffer with the memory failure. -/
theorem witness_LostWritesAreReported : Lawful issued ∧ ∃ t e, exec .timeout issued = .next t ∧ e = { e3 with tag := 1 }
    ∧ issued.posted.countP (fun o => decide ((o.port, o.tag, o.addr, o.beats, o.data) = (e.port, e.tag, e.addr, e.beats, e.data)))
      > t.posted.countP (fun o => decide ((o.port, o.tag, o.addr, o.beats, o.data) = (e.port, e.tag, e.addr, e.beats, e.data))) :=
  ⟨test_issued_lawful, after (exec .timeout issued), { e3 with tag := 1 }, rfl, rfl, by decide +kernel⟩

/-! ### Witnesses: ticks, the memory, SYNC -/

/-- The walk owed by the last tick. -/
def owed (s : State) : State := { s with sched := { s.sched with walkOwed := true } }

/-- P1 holds a READ, and the tick divider is 256. -/
def dividing (ticked : Nat) : State := { busy 0 119 with device := { Device.initial with divider := 256 }, ticked := ticked }

/-- Nothing due at the last offset of window 0, one cycle below the divider and at it; and the walk due. -/
theorem witness_GateTickAdvancesTheCounts :
    (∀ n, NothingDue (dividing n) ∧ (dividing n).inReset = false ∧ (dividing n).pending = []) ∧ Lawful (dividing 255)
      ∧ ((dividing 254).ticked + 1 < (dividing 254).device.divider ∧ ¬ (dividing 255).ticked + 1 < (dividing 255).device.divider)
      ∧ (Lawful (owed (at_ 0 119)) ∧ ¬ NothingDue (owed (at_ 0 119)) ∧ (owed (at_ 0 119)).inReset = false
        ∧ (owed (at_ 0 119)).pending = []) := by
  refine ⟨fun n => ⟨⟨rfl, ?_, nofun, fun _ => nofun, nofun, nofun, rfl⟩, rfl, rfl⟩, lawful_of _ (by decide +kernel), by decide +kernel,
    lawful_of _ (by decide +kernel), (fun h => absurd h.1 (by decide)), rfl, rfl⟩
  show ∀ p, ∀ h ∈ ((dividing 0).ports.get p).queue, h.deadline ≠ some 0
  intro p; cases p <;> decide +kernel

/-- The walk owed at the last offset of window 0, at that of window 2, and at the start of window 0 after a cut; and nothing
owed. -/
theorem witness_WindowExpiryMovesTheWalk :
    (∀ w o, (owed (at_ w o)).inReset = false ∧ walking (owed (at_ w o)) = true ∧ (owed (at_ w o)).sched.walkOwed = true)
    ∧ (let s := owed (at_ 0 119)
       s.sched.offset + 1 = (currentWindow s).length ∧ s.sched.window + 1 < (governing s).windowCount)
    ∧ (let s := owed (at_ 2 29)
       s.sched.offset + 1 = (currentWindow s).length ∧ s.sched.window + 1 = (governing s).windowCount)
    ∧ ¬ (owed (at_ 0 0)).sched.offset + 1 = (currentWindow (owed (at_ 0 0))).length
    ∧ ((at_ 0 119).inReset = false ∧ (at_ 0 119).sched.walkOwed = false) :=
  ⟨fun _ _ => ⟨rfl, rfl, rfl⟩, by decide +kernel, by decide +kernel, by decide +kernel, rfl, rfl⟩

theorem witness_HoldLimitExpiryAnswersLate :
    let late := { held with tag := 5, deadline := some 0 }
    let s : State := { at_ 1 0 with ports := State.reset.ports.set .p1 ⟨[1, 5], [held, late], false⟩ }
    s.inReset = false ∧ (s.ports.get .p1).queue = [held] ++ late :: [] ∧ (∀ x ∈ [held], x.deadline ≠ some 0)
      ∧ late.deadline = some 0 := by decide +kernel

/-- A passing check of plan B's contents as plan A, due at its completion; and a failing one. -/
theorem witness_CheckCompletionWritesTheReport :
    let checked : Plan → CheckRun → State := fun p c =>
      { stood .stopped with plans := ⟨{ p with state := .checking, report := .none }, planB⟩, check := some c }
    PlanLaw (checked planB ⟨.a, .finish none, planB.derived, true⟩)
      ∧ PlanLaw (checked Plan.powerOn ⟨.a, .finish (some .noWindows), Derived.zero, true⟩) :=
  ⟨@of_decide_eq_true _ (decPlan _) (by decide +kernel), @of_decide_eq_true _ (decPlan _) (by decide +kernel)⟩

/-- The age at the limit, and a response whose tag is not the oldest entry's. -/
theorem witness_MemoryFailureTakesItsSteps :
    issued.inReset = false ∧ issued.mem.state = .ready
      ∧ (∃ e rest, issued.mem.issueList = e :: rest ∧ 1 ≤ issued.device.limit ∧ issued.device.limit ≤ e.age)
      ∧ (∀ e, issued.mem.issueList.head? = some e → (1 : IssueTag) ≠ e.issueTag) := by
  refine ⟨rfl, rfl, ⟨_, _, rfl, by decide +kernel, by decide +kernel⟩, ?_⟩
  intro e h; cases h; decide +kernel

/-- The next entry below the limit, and at it; a posted entry; and a port out of READY. -/
theorem witness_ResponsesCompleteTheOldestEntry :
    (∃ e x, issued.inReset = false ∧ issued.mem.state = .ready ∧ issued.mem.issueList = [e, x] ∧ e.issueTag = 0
      ∧ e.source = .port .p1 4 ∧ e.orphan = false ∧ e.kind = .read ∧ e.beats ≤ [1#64, 2, 3, 4].length
      ∧ ¬ e.beats ≤ [1#64, 2, 3].length ∧ x.age < issued.device.limit)
    ∧ (let s : State := { issued with device := { Device.initial with limit := 30 } }
       ∃ e rest, s.mem.issueList = e :: rest ∧ s.device.limit ≠ 0 ∧ ∃ x ∈ rest.head?, x.age = s.device.limit)
    ∧ (let s : State := { issued with mem := { issued.mem with issueList := issued.mem.issueList.tail } }
       ∃ e before o after, s.mem.issueList = [e] ∧ e.source = .posted ∧ e.kind = .write ∧ s.posted = before ++ o :: after
         ∧ o.state = .inFlight e.issueTag ∧ ∀ x ∈ before, x.state ≠ .inFlight e.issueTag)
    ∧ (faulted.inReset = false ∧ faulted.mem.state ≠ .ready) :=
  ⟨⟨_, _, rfl, rfl, rfl, rfl, rfl, rfl, rfl, by decide +kernel, by decide +kernel, by decide +kernel⟩,
    ⟨_, _, rfl, nofun, _, rfl, rfl⟩, ⟨_, [], _, _, rfl, rfl, rfl, rfl, rfl, nofun⟩, by decide +kernel⟩

theorem witness_SelectedEdgeIsCaptured :
    let armed := synced .align 0 (stood .armed)
    let s := synced .observe 0 (at_ 2 29)
    (armed.inReset = false ∧ armed.sync.mode ≠ .off ∧ armed.sync.edge = .rising ∧ armed.sched.gate = .armed)
      ∧ (synced .align 0 faulted).sched.gate = .faulted
      ∧ (s.sync.mode = .observe ∧ s.sync.edge = .rising ∧ s.sched.gate = .running ∧ ScheduleLaw s)
      ∧ s.sync.edge ≠ .falling ∧ State.reset.sync.mode = .off :=
  ⟨⟨rfl, nofun, rfl, rfl⟩, rfl, ⟨rfl, rfl, rfl, @of_decide_eq_true _ (decSchedule _) (by decide +kernel)⟩, nofun, rfl⟩

/-- Plan B in RUNNING at a position, in mode ALIGN with a limit. -/
def aligned (window offset limit : Nat) : State := synced .align limit (at_ window offset)

/-- T of 0; L - T equal to C; T equal to C; and both above C. -/
theorem witness_AlignedEdgeCorrectsTheWalk :
    (Lawful (aligned 0 0 30) ∧ Lawful (aligned 2 0 30) ∧ Lawful (aligned 0 30 30) ∧ Lawful (aligned 0 30 29))
      ∧ (∀ w o c, (aligned w o c).inReset = false ∧ (aligned w o c).sync.mode = .align ∧ (aligned w o c).sched.gate = .running)
      ∧ ((windowsBelow planB 3).map (·.length)).sum = 250 ∧ ((windowsBelow planB 2).map (·.length)).sum + 0 = 220 :=
  ⟨⟨lawful_of _ (by decide +kernel), lawful_of _ (by decide +kernel), lawful_of _ (by decide +kernel),
    lawful_of _ (by decide +kernel)⟩, fun _ _ _ => ⟨rfl, rfl, rfl⟩, by decide +kernel, by decide +kernel⟩

/-! ### Witnesses: requests and grants -/

/-- P3 is ready in RUNNING. -/
theorem ready_at (window offset : Nat) : Ready (at_ window offset) .p3 := ⟨rfl, Nat.succ_pos 7, Or.inl rfl, rfl⟩

theorem witness_ArrivalRefusedByTheBus :
    (read 16 0xF80).wellFormed = true ∧ ¬ Ready (stood .stopped) .p3 ∧ Ready faulted .p3 ∧ faulted.sched.gate = .faulted
      ∧ Ready (at_ 0 0) .p3 ∧ (at_ 0 0).sched.gate ≠ .faulted ∧ (read 1 0x1).addr.toNat % 8 ≠ 0
      ∧ ((read 16 0xF88).addr.toNat % 8 = 0 ∧ 4096 < (read 16 0xF88).addr.toNat % 4096 + (read 16 0xF88).beats * 8)
      ∧ ((read 16 0xF80).addr.toNat % 4096 + (read 16 0xF80).beats * 8 ≤ 4096
        ∧ ({ read 16 0xF80 with tag := 1 } : Request).tag ∈ ((busy 0 0).ports.get .p1).tags) := by
  refine ⟨by decide +kernel, ?_, ⟨rfl, by decide +kernel, Or.inr (Or.inr (Or.inl rfl)), rfl⟩, rfl, ready_at 0 0, nofun, by decide +kernel, by decide +kernel,
    by decide +kernel⟩
  rintro ⟨_, _, h, _⟩
  revert h
  decide +kernel

/-- A request of P1, P2 or P3 at the start of window 0 reaches the checker. -/
theorem reaches (s : State) (p : Port) (r : Request) (h : s.inReset = false ∧ r.wellFormed = true ∧ (s.ports.get p).linkReset = false
    ∧ (s.ports.get p).queue.length < 8 ∧ s.sched.gate = .running ∧ s.link.resetting = false ∧ r.addr.toNat % 8 = 0
    ∧ r.addr.toNat % 4096 + r.beats * 8 ≤ 4096 ∧ r.tag ∉ (s.ports.get p).tags) : ReachesTheChecker s p r := by
  obtain ⟨h1, h2, h3, h4, h5, h6, h7, h8, h9⟩ := h
  exact ⟨h1, h2, ⟨h3, h4, Or.inl h5, h6⟩, by simp [walking, h5], h7, h8, h9⟩

/-- Region 0 of plan B decides at its last 8 bytes. -/
theorem decides : DecidingRegion (governing (at_ 0 0)) 0xFFF8 0 := by
  refine ⟨by decide +kernel, ⟨by decide +kernel, by decide +kernel⟩, fun j h => absurd h (Nat.not_lt_zero j)⟩

/-- Plan B with every right, overhead 1 and a beat cost: with 15 a request of 8 beats costs 121, and with 0 every request
costs 1. -/
def costly (cost : Nat) : State :=
  let p := { planB with
    overhead := 1, beatCost := cost
    regions := planB.regions.setIfInBounds 0 ⟨0, 0x10000, PerPort.all .readWrite, true⟩
    report := .passed ⟨true, false, false, false⟩ false }
  { at_ 0 0 with plans := ⟨Plan.powerOn, p⟩ }

theorem test_costly_lawful : Lawful (costly 15) ∧ Lawful (costly 0) :=
  ⟨lawful_of _ (by decide +kernel), lawful_of _ (by decide +kernel)⟩

/-- Just above the region; P0, with no right, in the region; and costs one above the longest open window, of 120 and
of 0. -/
theorem witness_ArrivalRefusedByTheChecker :
    ReachesTheChecker (at_ 0 0) .p3 (read 1 0x10000)
      ∧ (∀ i < (governing (at_ 0 0)).regionCount, ¬ HoldsByte (regionAt (governing (at_ 0 0)) i) 0x10000)
      ∧ ReachesTheChecker (at_ 0 0) .p0 (read 1 0xFFF8)
      ∧ ¬ Grants ((regionAt (governing (at_ 0 0)) 0).rights.get .p0) .read
      ∧ ReachesTheChecker (costly 15) .p1 (read 8 0xFC0)
      ∧ (governing (costly 15)).derived.longestOpen.get .p1 + 1 = (governing (costly 15)).overhead + 8 * (governing (costly 15)).beatCost
      ∧ ReachesTheChecker (costly 0) .p0 (read 1 0xFF8)
      ∧ (governing (costly 0)).derived.longestOpen.get .p0 + 1 = (governing (costly 0)).overhead + 1 * (governing (costly 0)).beatCost
      ∧ DecidingRegion (governing (costly 15)) 0xFC0 0 ∧ DecidingRegion (governing (costly 0)) 0xFF8 0
      ∧ Grants ((regionAt (governing (costly 0)) 0).rights.get .p0) .read := by
  refine ⟨reaches _ _ _ (by decide +kernel), ?_, reaches _ _ _ (by decide +kernel), ?_, reaches _ _ _ (by decide +kernel), by decide +kernel,
    reaches _ _ _ (by decide +kernel), by decide +kernel, ?_, ?_, Or.inl (by decide +kernel)⟩
  · intro i hi
    obtain rfl : i = 0 := Nat.lt_one_iff.mp hi
    unfold HoldsByte; decide +kernel
  · unfold Grants; decide +kernel
  · exact ⟨by decide +kernel, ⟨by decide +kernel, by decide +kernel⟩, fun j h => absurd h (Nat.not_lt_zero j)⟩
  · exact ⟨by decide +kernel, ⟨by decide +kernel, by decide +kernel⟩, fun j h => absurd h (Nat.not_lt_zero j)⟩

/-- A P3 WRITE that meets the six conditions; a READ, which does not; and a boot-pass request. -/
theorem witness_ArrivalPostedOrHeld :
    ReachesTheChecker (at_ 0 0) .p3 (write 1 0xFFF8) ∧ DecidingRegion (governing (at_ 0 0)) (write 1 0xFFF8).addr 0
      ∧ Grants ((regionAt (governing (at_ 0 0)) 0).rights.get .p3) .write
      ∧ (governing (at_ 0 0)).overhead + 1 * (governing (at_ 0 0)).beatCost ≤ (governing (at_ 0 0)).derived.longestOpen.get .p3
      ∧ ((regionAt (governing (at_ 0 0)) 0).posting = true ∧ ((at_ 0 0).ports.get .p3).queue = []
        ∧ openTo (currentWindow (at_ 0 0)) .p3 = false
        ∧ (at_ 0 0).posted.countP (fun e => decide (e.port = .p3)) < ((governing (at_ 0 0)).settings.get .p3).quota)
      ∧ ReachesTheChecker (at_ 0 0) .p3 (read 1 0xFFF8)
      ∧ (let s := stood .armed
         s.inReset = false ∧ (read 16 0xF80).wellFormed = true ∧ Ready s .p0 ∧ s.sched.gate = .armed
           ∧ (read 16 0xF80).addr.toNat % 4096 + (read 16 0xF80).beats * 8 ≤ 4096 ∧ (read 16 0xF80).tag ∉ s.ports.p0.tags) :=
  ⟨reaches _ _ _ (by decide +kernel), decides, Or.inl (by decide +kernel), by decide +kernel, by decide +kernel, reaches _ _ _ (by decide +kernel), rfl, by decide +kernel,
    ⟨rfl, by decide +kernel, Or.inr (Or.inr (Or.inr ⟨rfl, rfl⟩)), rfl⟩, rfl, by decide +kernel, by decide +kernel⟩

/-- P1 may issue its held READ at the start of window 0, and no contender comes before it. -/
theorem witness_GrantIssuesTheHead :
    Lawful (busy 0 0) ∧ (busy 0 0).inReset = false ∧ (busy 0 0).mem.state = .ready ∧ Wins (busy 0 0) (.port .p1)
      ∧ ((busy 0 0).ports.get .p1).queue = held :: [] ∧ LowestFree (busy 0 0).mem.issueList 0 := by
  refine ⟨test_busy_lawful, rfl, rfl, ⟨⟨held, rfl, rfl, by decide +kernel, ?_, ?_⟩, ?_⟩, rfl, nofun, fun u h => absurd h (Nat.not_lt_zero u.val)⟩
  · intro e he hp
    obtain rfl := List.mem_singleton.mp he
    cases hp
  · show openTo (currentWindow (busy 0 0)) .p1 = true ∧ _ ≤ _
    decide +kernel
  · intro d hd
    match d with
    | .port .p0 => obtain ⟨h, hh, _⟩ := hd; cases hh
    | .port .p1 => decide +kernel
    | .port .p2 => decide +kernel
    | .port .p3 => decide +kernel
    | .retire => decide +kernel

/-- The posted write may retire at the start of window 1, and P1's head may not issue there. -/
theorem witness_GrantRetiresOrWaits :
    (Lawful (busy 1 0) ∧ (busy 1 0).mem.state = .ready ∧ Wins (busy 1 0) .retire ∧ (busy 1 0).posted = [] ++ e3 :: []
      ∧ RetireMayIssue (busy 1 0) e3 0)
    ∧ (Lawful faulted ∧ faulted.mem.state ≠ .ready)
    ∧ (Lawful (at_ 0 0) ∧ ∀ c, ¬ MayIssue (at_ 0 0) c) := by
  have hr : RetireMayIssue (busy 1 0) e3 0 := by
    refine ⟨rfl, rfl, by decide +kernel, nofun, ?_⟩
    show if e3.plan ≠ none ∧ e3.plan = activePlan (busy 1 0) then
        (openTo (currentWindow (busy 1 0)) .p3 = true ∨ (currentWindow (busy 1 0)).drain = true) ∧ _ ≤ _
      else (currentWindow (busy 1 0)).openSet ≠ 0 ∨ (currentWindow (busy 1 0)).drain = true
    rw [if_pos (by decide +kernel)]
    decide +kernel
  refine ⟨⟨test_busy_late_lawful, rfl, ⟨⟨0, by decide +kernel, e3, rfl, hr⟩, ?_⟩, rfl, hr⟩, ⟨test_faulted_lawful, nofun⟩, test_at_lawful, ?_⟩
  · intro d hd
    match d with
    | .port .p0 => obtain ⟨h, hh, _⟩ := hd; cases hh
    | .port .p1 =>
      obtain ⟨h, _, _, _, _, hw⟩ := hd
      exact absurd hw.1 (by decide +kernel)
    | .port .p2 => obtain ⟨h, hh, _⟩ := hd; cases hh
    | .port .p3 => obtain ⟨h, hh, _⟩ := hd; cases hh
    | .retire => decide +kernel
  · intro c hc
    match c with
    | .port .p0 => obtain ⟨h, hh, _⟩ := hc; cases hh
    | .port .p1 => obtain ⟨h, hh, _⟩ := hc; cases hh
    | .port .p2 => obtain ⟨h, hh, _⟩ := hc; cases hh
    | .port .p3 => obtain ⟨h, hh, _⟩ := hc; cases hh
    | .retire => obtain ⟨i, hi, _⟩ := hc; exact absurd hi (Nat.not_lt_zero i)

/-! ### Witnesses: management commands -/

/-- The stopped part with plan B ACTIVE and no transaction takes every command. -/
theorem opens (gate : GateState) (c : Instr) (h : (encodeFrame c).isSome = true) : Open c (stood gate) :=
  open_idle rfl h rfl rfl

theorem witness_ReadingCommandsAnswer :
    Sendable .status drained ∧ Open (.readFault (portByte .p3) 0x01) (stood .stopped) ∧ Open (.readSync 0x01) (stood .stopped)
      ∧ Open .readRecoveryReport (stood .stopped) ∧ Open (.readPlanItem (planByte .b) 0 31) (stood .stopped)
      ∧ (planItem (stood .stopped) .b 0 31).isSome = true
      ∧ Open (.readFault 4 0) (stood .stopped) ∧ Open (.readFault 0 2) (stood .stopped) ∧ Open (.readSync 2) (stood .stopped)
      ∧ Open (.readPlanItem 2 0 0) (stood .stopped) ∧ Open (.readPlanItem 0 6 0) (stood .stopped)
      ∧ Open (.readPlanItem 0 0 32) (stood .stopped) ∧ Open (.readPlanItem 0 1 16) (stood .stopped)
      ∧ Open (.readPlanItem 0 2 4) (stood .stopped) ∧ Open (.readPlanItem 0 3 1) (stood .stopped) := by
  refine ⟨⟨rfl, _, rfl, nofun⟩, ?_, ?_, ?_, ?_, by decide +kernel, ?_, ?_, ?_, ?_, ?_, ?_, ?_, ?_, ?_⟩ <;> exact opens _ _ rfl

theorem witness_StatusShowsTheState : Lawful issued := test_issued_lawful

/-- FAULTED with every record occupied: a fault record with every field, a capture at the ends of its ranges, and plan A
with a failed check. -/
def recorded : State :=
  let info : FaultInfo := ⟨.postedAbandoned, 15, .write, 0xFFFFFFF8, 1, some 31, some .b, some 0xFFFFFFFF⟩
  { faulted with
    plans := { faulted.plans with a := { Plan.powerOn with windowCount := 32, report := .failed (.windowUnset 31) } }
    events := { State.reset.events with faults := State.reset.events.faults.set .p3 ⟨some info, 255⟩ }
    sync := { faulted.sync with capture := ⟨true, .outOfLimit, some ⟨0xFFFFFFFF, 31, 65534, 2097119, 2097120⟩⟩ } }

theorem witness_ReadDataShowsTheRecords :
    Lawful recorded ∧ (recorded.events.faults.get .p3).first.isSome = true ∧ (recorded.events.faults.get .p0).first = none
      ∧ recorded.sync.capture.position.isSome = true ∧ faulted.sync.capture.position = none ∧ Lawful faulted
      ∧ recorded.mem.report.reason = some .timeout ∧ (31#8).toNat ≤ 31 ∧ (15#8).toNat ≤ 15 :=
  ⟨lawful_of _ (by decide +kernel), rfl, rfl, rfl, rfl, test_faulted_lawful, rfl, by decide +kernel, by decide +kernel⟩

theorem witness_EventCommandsAct :
    (Open (.takeEvents 0x0FFF) (stood .stopped) ∧ (0x0FFF#16).toNat < 4096)
      ∧ (Open (.takeEvents 0x1000) (stood .stopped) ∧ 4096 ≤ (0x1000#16).toNat)
      ∧ Open (.setAlerts 0x0FFF) (stood .stopped) ∧ Open (.setAlerts 0x1000) (stood .stopped) :=
  ⟨⟨opens _ _ rfl, by decide +kernel⟩, ⟨opens _ _ rfl, by decide +kernel⟩, opens _ _ rfl, opens _ _ rfl⟩

/-- In range at its ends and just out of it; the limit at the age of the oldest entry, and one above it. -/
theorem witness_SettingsAreReplacedTogether :
    let old : State := { stood .stopped with mem := { State.reset.mem with issueList := [⟨0, .posted, .write, 0, 1, 50, false⟩] } }
    Open (.setDevice 8 65535 255 1) (stood .stopped) ∧ Open (.setDevice 9 0 1 0) (stood .stopped)
      ∧ Open (.setDevice 0 0 0 0) (stood .stopped) ∧ Open (.setDevice 0 0 1 2) (stood .stopped)
      ∧ Open (.setDevice 0 0 1 0) (stood .armed)
      ∧ (Open (.setDevice 0 50 1 1) old ∧ (50#16).toNat ≠ old.device.limit ∧ old.mem.state = .ready
        ∧ (∃ e ∈ old.mem.issueList.head?, (50#16).toNat ≤ e.age) ∧ ¬ ∃ e ∈ old.mem.issueList.head?, (51#16).toNat ≤ e.age)
      ∧ Open (.setSync 2 1 4095) (stood .stopped) ∧ Open (.setSync 0 0 0) (stood .armed)
      ∧ Open (.setSync 3 0 0) (stood .stopped) ∧ Open (.setSync 0 2 0) (stood .stopped)
      ∧ Open (.setSync 0 0 4096) (stood .stopped) := by
  refine ⟨opens _ _ rfl, opens _ _ rfl, opens _ _ rfl, opens _ _ rfl, opens _ _ rfl, ⟨open_idle rfl rfl rfl rfl, by decide +kernel, rfl,
    ⟨_, rfl, by decide +kernel⟩, ?_⟩, opens _ _ rfl, opens _ _ rfl, opens _ _ rfl, opens _ _ rfl, opens _ _ rfl⟩
  rintro ⟨e, he, hl⟩
  cases he
  revert hl; decide +kernel

/-- The plan that is not ACTIVE in another state. -/
def other (gate : GateState) (state : PlanState) (pending : Bool) : State :=
  let s := stood gate
  { s with plans := { s.plans with a := { s.plans.a with state := state } }
           sched := { s.sched with pendingSwap := if pending then some .a else none } }

theorem other_opens (gate : GateState) (state : PlanState) (pending : Bool) (c : Instr) (h : (encodeFrame c).isSome = true) :
    Open c (other gate state pending) := open_idle rfl h rfl rfl

theorem witness_PlanWritesAreRefusedByState :
    writeTarget (.writeCosts 2 0 0) = some (0x15, 2) ∧ Open (.writeCosts 2 0 0) (stood .stopped)
      ∧ (Open (.writeCosts 1 64 0) (stood .stopped) ∧ ((stood .stopped).plans.get .b).state = .active)
      ∧ (Open (.writeCosts 0 0 0) (other .stopped .checking false) ∧ ((other .stopped .checking false).plans.get .a).state = .checking)
      ∧ (Open (.writeCosts 0 0 0) (other .running .ready true) ∧ ((other .running .ready true).plans.get .a).state = .ready
        ∧ (other .running .ready true).sched.pendingSwap = some .a) :=
  ⟨rfl, opens _ _ rfl, ⟨opens _ _ rfl, rfl⟩, ⟨other_opens _ _ _ _ rfl, rfl⟩, other_opens _ _ _ _ rfl, rfl, rfl⟩

/-- The operands at the ends of their ranges and just beyond them, on an EDIT plan and on a READY one. -/
theorem witness_PlanWritesReplaceTheirFields :
    Writable (other .stopped .edit false) .a ∧ Writable (stood .stopped) .a
      ∧ Open (.writeWindow (planByte .a) 31 0xFFFF 0xFF 0x02) (stood .stopped)
      ∧ Open (.writeWindow (planByte .a) 32 1 0 0) (stood .stopped) ∧ Open (.writeWindow (planByte .a) 0 0 0 0) (stood .stopped)
      ∧ Open (.setWindowCount (planByte .a) 32) (stood .stopped) ∧ Open (.setWindowCount (planByte .a) 33) (stood .stopped)
      ∧ Open (.writeRegion (planByte .a) 15 0xFFFFF000 0x100000000 0xAA 0xFF) (stood .stopped)
      ∧ Open (.writeRegion (planByte .a) 16 0 0x1000 0 0) (stood .stopped)
      ∧ Open (.writeRegion (planByte .a) 0 0x800 0x1000 0 0) (stood .stopped)
      ∧ Open (.writeRegion (planByte .a) 0 0 0 0 0) (stood .stopped)
      ∧ Open (.writeRegion (planByte .a) 0 0 0x100001000 0 0) (stood .stopped)
      ∧ Open (.writeRegion (planByte .a) 0 0 0x1000 0xC0 0) (stood .stopped)
      ∧ Open (.setRegionCount (planByte .a) 16) (stood .stopped) ∧ Open (.setRegionCount (planByte .a) 17) (stood .stopped)
      ∧ Open (.writePortSettings (planByte .a) (portByte .p3) 0xFFFF 16) (stood .stopped)
      ∧ Open (.writePortSettings (planByte .a) (portByte .p3) 0 17) (stood .stopped)
      ∧ Open (.writePortSettings (planByte .a) 4 0 0) (stood .stopped)
      ∧ Open (.writeCosts (planByte .a) 63 15) (stood .stopped) ∧ Open (.writeCosts (planByte .a) 64 0) (stood .stopped)
      ∧ Open (.writeCosts (planByte .a) 0 16) (stood .stopped) := by
  refine ⟨Or.inl rfl, Or.inr ⟨rfl, nofun⟩, ?_, ?_, ?_, ?_, ?_, ?_, ?_, ?_, ?_, ?_, ?_, ?_, ?_, ?_, ?_, ?_, ?_, ?_, ?_⟩ <;>
    exact opens _ _ rfl

theorem witness_CopyAndCheckPlan :
    (Open .copyPlan State.reset ∧ activePlan State.reset = none)
      ∧ (Open .copyPlan (stood .stopped) ∧ activePlan (stood .stopped) = some .b)
      ∧ (Open .copyPlan (other .stopped .checking false) ∧ activePlan (other .stopped .checking false) = some .b)
      ∧ (Open .copyPlan (other .running .ready true) ∧ activePlan (other .running .ready true) = some .b)
      ∧ Open (.checkPlan 2) (stood .stopped)
      ∧ (let s : State := { other .stopped .checking false with check := some ⟨.a, .window 0, Derived.zero, false⟩ }
         Open (.checkPlan 0) s ∧ s.check ≠ none)
      ∧ (Open (.checkPlan (planByte .b)) (stood .stopped) ∧ (stood .stopped).check = none ∧ ((stood .stopped).plans.get .b).state = .active)
      ∧ (Open (.checkPlan (planByte .a)) (other .running .ready true) ∧ (other .running .ready true).sched.pendingSwap = some .a)
      ∧ (Open (.checkPlan (planByte .a)) (stood .stopped) ∧ ((stood .stopped).plans.get .a).state ≠ .active
        ∧ (stood .stopped).sched.pendingSwap ≠ some .a) := by
  refine ⟨⟨open_idle rfl rfl rfl rfl, by decide +kernel⟩, ⟨opens _ _ rfl, by decide +kernel⟩,
    ⟨other_opens _ _ _ _ rfl, by decide +kernel⟩, ⟨other_opens _ _ _ _ rfl, by decide +kernel⟩, opens _ _ rfl,
    ⟨open_idle rfl rfl rfl rfl, by decide +kernel⟩, ⟨opens _ _ rfl, by decide +kernel, by decide +kernel⟩,
    ⟨other_opens _ _ _ _ rfl, by decide +kernel⟩, opens _ _ rfl, by decide +kernel, by decide +kernel⟩

theorem witness_RequestSwapActivatesOrPends :
    (∀ g, Open (.requestSwap 2) (stood g) ∧ Open (.requestSwap (planByte .a)) (stood g) ∧ Open (.requestSwap (planByte .b)) (stood g))
      ∧ ((stood .running).sched.gate = .running ∧ ((stood .running).plans.get .a).state = .ready
        ∧ (stood .running).sched.pendingSwap = none ∧ ((stood .running).plans.get .b).state = .active)
      ∧ (Open (.requestSwap (planByte .a)) (other .running .edit false) ∧ ((other .running .edit false).plans.get .a).state = .edit)
      ∧ (Open (.requestSwap (planByte .a)) (other .running .ready true) ∧ (other .running .ready true).sched.pendingSwap ≠ none) :=
  ⟨fun g => ⟨opens g _ rfl, opens g _ rfl, opens g _ rfl⟩, by decide +kernel, ⟨other_opens _ _ _ _ rfl, rfl⟩, other_opens _ _ _ _ rfl, nofun⟩

theorem witness_WithdrawSwapIsDone : Open .withdrawSwap (other .running .ready true) := other_opens _ _ _ _ rfl

theorem witness_StartRunsOrArms :
    Open (.start 2) (stood .stopped) ∧ (Open (.start 1) (stood .running) ∧ (stood .running).sched.gate ≠ .stopped)
      ∧ (Open (.start 0) State.reset ∧ activePlan State.reset = none)
      ∧ (Open (.start 0) (stood .stopped) ∧ activePlan (stood .stopped) ≠ none)
      ∧ (Open (.start 1) (stood .stopped) ∧ (stood .stopped).sync.mode = .off)
      ∧ (let s := synced .observe 0 (stood .stopped)
         Open (.start 1) s ∧ s.sched.gate = .stopped ∧ activePlan s ≠ none ∧ s.sync.mode ≠ .off) := by
  refine ⟨opens _ _ rfl, ⟨opens _ _ rfl, nofun⟩, ⟨open_idle rfl rfl rfl rfl, by decide +kernel⟩, ⟨opens _ _ rfl, by decide +kernel⟩,
    ⟨opens _ _ rfl, rfl⟩, open_idle rfl rfl rfl rfl, rfl, by decide +kernel, by decide +kernel⟩

theorem witness_HaltsStopTheGate : ∀ g, Open .halt (stood g) ∧ Open .haltNow (stood g) ∧ (stood g).sched.gate = g :=
  fun g => ⟨opens g _ rfl, opens g _ rfl, rfl⟩

theorem witness_RecoveryRunsToItsEnd :
    let recovering : MemState → Recovery → State := fun m r =>
      { faulted with mem := { faulted.mem with state := m, recovery := r } }
    (Open .recover (recovering .resetting (.pulse 16)) ∧ (recovering .resetting (.pulse 16)).mem.state = .resetting)
      ∧ (Open .recover (stood .running) ∧ (stood .running).mem.state ≠ .resetting ∧ (stood .running).sched.gate ≠ .faulted)
      ∧ (Open .recover faulted ∧ faulted.mem.state ≠ .resetting ∧ faulted.sched.gate = .faulted)
      ∧ ((recovering .resetting (.pulse 0)).inReset = false ∧ (recovering .resetting (.pulse 0)).mem.recovery = .pulse 0)
      ∧ (recovering .resetting (.pulse 1)).mem.recovery ≠ .pulse 0 ∧ (recovering .resetting (.wait 0)).mem.recovery ≠ .pulse 0
      ∧ (recovering .resetting (.wait 65535)).mem.recovery = .wait 65535 ∧ (recovering .resetting (.wait 0)).mem.recovery = .wait 0 :=
  ⟨⟨open_idle rfl rfl rfl rfl, rfl⟩, ⟨opens _ _ rfl, by decide +kernel, by decide +kernel⟩, ⟨open_idle rfl rfl rfl rfl, by decide +kernel, rfl⟩,
    ⟨rfl, rfl⟩, nofun, nofun, rfl, rfl⟩

theorem witness_ResetGateRunsToItsEnd :
    (∀ g, Open .resetGate (stood g) ∧ (stood g).link.resetDue = false)
      ∧ (drained.inReset = false ∧ Lawful drained ∧ drained.link.resetDue = true) :=
  ⟨fun g => ⟨opens g _ rfl, rfl⟩, rfl, test_drained_lawful, rfl⟩

end Sys2Proof.Tests
end

section
/-! SUPPORT. R25 over every event: what an event does to the plan store, the check in progress and the pending swap. Most
events leave the three as they are; the few that do not are the swap, the completion of a check, the resets and the plan
commands. -/

namespace Sys2Proof.Machine

-- One proof at a time: many short proofs at once take a thread, and a thread's memory, each.
set_option Elab.async false

/-! ### The plan store and what may happen to it -/

/-- The part of `PlanLaw` that R25 rests on: at most one plan ACTIVE, a pending target READY, a plan under check CHECKING. -/
structure PlanStore (s : State) : Prop where
  one : ¬(s.plans.a.state = .active ∧ s.plans.b.state = .active)
  target : ∀ n, s.sched.pendingSwap = some n → (s.plans.get n).state = .ready
  checked : ∀ n, s.check.map (·.plan) = some n → (s.plans.get n).state = .checking

theorem PlanLaw.planStore {s : State} (h : PlanLaw s) : PlanStore s := by
  obtain ⟨hone, htarget, hchecked, -⟩ := h
  exact ⟨hone, fun n hn => (htarget n hn).1, fun n hn => (hchecked n).mpr hn⟩

/-- No swap is pending in STOPPED (R24, R32). -/
theorem PlanLaw.no_swap_in_stopped {s : State} (h : PlanLaw s) (hg : s.sched.gate = .stopped) : s.sched.pendingSwap = none := by
  obtain ⟨-, htarget, -⟩ := h
  rw [Option.eq_none_iff_forall_ne_some]
  intro n hn
  simpa [walking, hg] using (htarget n hn).2

/-- While a plan is ACTIVE the other is not. -/
theorem PlanStore.other_not_active {s : State} (h : PlanStore s) {n : PlanName} (hn : (s.plans.get n).state = .active) :
    (s.plans.get n.other).state ≠ .active := by
  intro ho
  cases n
  · exact h.one ⟨hn, ho⟩
  · exact h.one ⟨ho, hn⟩

theorem activePlan_state {s : State} {n : PlanName} (h : activePlan s = some n) : (s.plans.get n).state = .active := by
  unfold activePlan at h
  split_ifs at h with ha hb <;> cases h
  · exact ha
  · exact hb

/-- What a plan can become by events that are no plan command: a READY or ACTIVE plan moves between these two with all
else kept, or is returned to EDIT by a reset; an EDIT plan stays EDIT. -/
def Drift (p q : Plan) : Prop :=
  p.state ≠ .checking → q.state = .edit ∨ (p.state ≠ .edit ∧ q.state ≠ .checking ∧ q = { p with state := q.state })

theorem Drift.refl (p : Plan) : Drift p p := fun hp => by
  by_cases he : p.state = .edit
  · exact .inl he
  · exact .inr ⟨he, hp, rfl⟩

theorem Drift.of_edit {p q : Plan} (h : q.state = .edit) : Drift p q := fun _ => .inl h

theorem Drift.trans {p q r : Plan} (h : Drift p q) (h' : Drift q r) : Drift p r := by
  intro hp
  rcases h hp with hq | ⟨hpe, hqc, hqp⟩
  · rcases h' (by simp [hq]) with hr | ⟨hqe, -⟩
    · exact .inl hr
    · exact absurd hq hqe
  · rcases h' hqc with hr | ⟨-, hrc, hrq⟩
    · exact .inl hr
    · exact .inr ⟨hpe, hrc, by rw [hrq, hqp]⟩

/-- A plan that was ACTIVE and is ACTIVE again is the plan it was. -/
theorem Drift.eq_of_active {p q : Plan} (h : Drift p q) (hp : p.state = .active) (hq : q.state = .active) : q = p := by
  rcases h (by simp [hp]) with he | ⟨-, -, hqp⟩
  · simp [hq] at he
  · rw [hqp, hq, ← hp]

/-- An event of the gate, the traffic or the clock keeps the plan store and lets each plan drift. -/
def Drifts (s t : State) : Prop := PlanStore s → PlanStore t ∧ ∀ n, Drift (s.plans.get n) (t.plans.get n)

theorem Drifts.trans {s t u : State} (h : Drifts s t) (h' : Drifts t u) : Drifts s u := fun hs =>
  ⟨(h' (h hs).1).1, fun n => ((h hs).2 n).trans ((h' (h hs).1).2 n)⟩

/-- What R25 asks of an event: the plan store kept, and a plan that stays ACTIVE unchanged. -/
def Settles (s t : State) : Prop :=
  PlanStore t ∧ ∀ n, (s.plans.get n).state = .active → (t.plans.get n).state = .active → t.plans.get n = s.plans.get n

theorem Drifts.settles {s t : State} (h : Drifts s t) (hs : PlanStore s) : Settles s t :=
  ⟨(h hs).1, fun n hn => ((h hs).2 n).eq_of_active hn⟩

/-- The plans and the plan under check are left; a pending swap is left or withdrawn. -/
structure LeavesPlans (s t : State) : Prop where
  plans : t.plans = s.plans
  check : t.check.map (·.plan) = s.check.map (·.plan)
  swap : t.sched.pendingSwap = s.sched.pendingSwap ∨ t.sched.pendingSwap = none

namespace LeavesPlans

theorem refl (s : State) : LeavesPlans s s := ⟨rfl, rfl, .inl rfl⟩

theorem trans {s t u : State} (h : LeavesPlans s t) (h' : LeavesPlans t u) : LeavesPlans s u :=
  ⟨h'.plans.trans h.plans, h'.check.trans h.check, h'.swap.elim (fun e => e ▸ h.swap) .inr⟩

/-- An update that does not name what the plan store holds. -/
theorem same {s t : State} (hp : t.plans = s.plans := by rfl) (hc : t.check = s.check := by rfl)
    (hs : t.sched.pendingSwap = s.sched.pendingSwap := by rfl) : LeavesPlans s t := ⟨hp, by rw [hc], .inl hs⟩

/-- Such an update before an event that leaves the plans. -/
theorem after_same {s t u : State} (h : LeavesPlans t u) (hp : t.plans = s.plans := by rfl) (hc : t.check = s.check := by rfl)
    (hs : t.sched.pendingSwap = s.sched.pendingSwap := by rfl) : LeavesPlans s u := (same hp hc hs).trans h

theorem foldl {α : Type} {f : State → α → State} (h : ∀ a s, LeavesPlans s (f s a)) (l : List α) (s : State) :
    LeavesPlans s (l.foldl f s) := by
  induction l generalizing s with
  | nil => exact refl s
  | cons a l ih => exact (h a s).trans (ih (f s a))

theorem ite {c : Prop} [Decidable c] {s t u : State} (ht : LeavesPlans s t) (hu : LeavesPlans s u) :
    LeavesPlans s (if c then t else u) := by
  split <;> assumption

theorem planStore {s t : State} (h : LeavesPlans s t) (hs : PlanStore s) : PlanStore t where
  one := by rw [h.plans]; exact hs.one
  target n hn := by
    rcases h.swap with hk | hk <;> rw [hk] at hn
    · rw [h.plans]; exact hs.target n hn
    · cases hn
  checked n hn := by rw [h.check] at hn; rw [h.plans]; exact hs.checked n hn

theorem drifts {s t : State} (h : LeavesPlans s t) : Drifts s t := fun hs =>
  ⟨h.planStore hs, fun n => by rw [h.plans]; exact .refl _⟩

theorem settles {s t : State} (h : LeavesPlans s t) (hs : PlanStore s) : Settles s t := h.drifts.settles hs

end LeavesPlans

theorem Settles.trans_leaves {s t u : State} (h : Settles s t) (h' : LeavesPlans t u) : Settles s u :=
  ⟨h'.planStore h.1, by rw [h'.plans]; exact h.2⟩

/-- Both plans EDIT, no swap pending, no check: the state after a reset (R8). -/
theorem drifts_of_edit {s t : State} (hp : ∀ n, (t.plans.get n).state = .edit) (hs : t.sched.pendingSwap = none)
    (hc : t.check = none) : Drifts s t := fun _ =>
  ⟨⟨fun h => absurd (h.1.symm.trans (hp .a)) (by simp), fun n hn => by simp [hs] at hn, fun n hn => by simp [hc] at hn⟩,
    fun n => .of_edit (hp n)⟩

/-- The one plan that a plan command or a check's completion rewrites is not ACTIVE after it, nor the target of a swap. -/
theorem PlanStore.rewritten {s t : State} {n : PlanName} {p : Plan} (h : PlanStore s) (hplans : t.plans = s.plans.set n p)
    (hp : p.state ≠ .active) (hswap : t.sched.pendingSwap = s.sched.pendingSwap) (hn : s.sched.pendingSwap ≠ some n)
    (hcheck : ∀ m, t.check.map (·.plan) = some m → if m = n then p.state = .checking else s.check.map (·.plan) = some m) :
    PlanStore t where
  one := by
    rw [hplans]
    rintro ⟨ha, hb⟩
    cases n
    · exact hp ha
    · exact hp hb
  target m hm := by
    rw [hswap] at hm
    have hmn : m ≠ n := by rintro rfl; exact hn hm
    rw [hplans, PerPlan.get_set, if_neg hmn]
    exact h.target m hm
  checked m hm := by
    have hk := hcheck m hm
    rw [hplans, PerPlan.get_set]
    split_ifs at hk ⊢
    · exact hk
    · exact h.checked m hk

/-! ### Events that leave the plans -/

theorem clearQueue_leaves (st : Status) (p : Port) (s : State) : LeavesPlans s (clearQueue st p s) := by
  rw [clearQueue_eq]; exact .same

theorem enterStopped_leaves (s : State) : LeavesPlans s (enterStopped s) := by
  rw [enterStopped_eq]; exact .same

/-- An entry to FAULTED withdraws a pending swap (R40). -/
theorem enterFaulted_leaves (s : State) : LeavesPlans s (enterFaulted s) := by
  rw [enterFaulted, clearOnFault_eq]; exact ⟨rfl, rfl, .inr rfl⟩

theorem enterHeld_leaves (p : Port) (h : Held) (s : State) : LeavesPlans s (enterHeld p s h) := by
  simp only [enterHeld]
  split <;> exact .same

theorem planEntry_leaves (s : State) : LeavesPlans s (planEntry s) :=
  .foldl (fun p _ => (LeavesPlans.foldl (enterHeld_leaves p) _ _).after_same) _ s

theorem enterRunning_leaves (s : State) : LeavesPlans s (enterRunning s) :=
  (planEntry_leaves _).after_same

theorem expireOne_leaves (p : Port) (s : State) : LeavesPlans s (expireOne p s) := by
  unfold expireOne
  split
  · exact .refl s
  · exact .same

theorem expireAll_leaves (s : State) : LeavesPlans s (expireAll s) :=
  .foldl (fun p t => .foldl (fun _ => expireOne_leaves p) _ t) _ s

theorem abandonPosted_leaves (s : State) : LeavesPlans s (abandonPosted s) :=
  (LeavesPlans.foldl (f := loseEntry .postedAbandoned) (fun _ _ => .same) _ _).after_same

theorem abandonIssue_leaves (e : IssueEntry) (s : State) : LeavesPlans s (abandonIssue s e) := by
  unfold abandonIssue
  split
  · exact .refl s
  · exact .same

theorem abandonReset_leaves (s : State) : LeavesPlans s (abandonReset s) := .ite .same (.refl s)

/-- A memory failure, in the order of its steps (R143). -/
theorem memoryFailure_leaves (why : FailureKind) (s : State) : LeavesPlans s (memoryFailure why s) := by
  have hposted : LeavesPlans s (abandonPosted { s with mem := { s.mem with state := .failed } }) :=
    (abandonPosted_leaves _).after_same
  have hissued := hposted.trans (.foldl abandonIssue_leaves s.mem.issueList _)
  exact hissued.trans ((enterFaulted_leaves _).trans (abandonReset_leaves _)).after_same

theorem timeoutTest_leaves (s : State) : LeavesPlans s (timeoutTest s) := .ite (memoryFailure_leaves _ s) (.refl s)

theorem completePort_leaves (p : Port) (t : Tag) (e : IssueEntry) (m : MemResponse) (s : State) :
    LeavesPlans s (completePort p t e m s) :=
  .ite (.refl s) (.ite .same .same)

theorem completePosted_leaves (t : IssueTag) (ok : Bool) (s : State) : LeavesPlans s (completePosted t ok s) := by
  unfold completePosted
  split
  · exact .refl s
  · exact .ite .same .same

theorem completeEntry_leaves (e : IssueEntry) (m : MemResponse) (s : State) : LeavesPlans s (completeEntry e m s) := by
  unfold completeEntry
  split
  · exact completePort_leaves _ _ _ _ _
  · exact completePosted_leaves _ _ _

theorem takeResponse_leaves (m : MemResponse) (s : State) : LeavesPlans s (takeResponse m s) := by
  unfold takeResponse
  split
  · exact .refl s
  · exact .refl s
  · split
    · exact memoryFailure_leaves _ s
    · rename_i e rest _
      have hdone : LeavesPlans s (completeEntry e m { s with mem := { s.mem with issueList := rest } }) :=
        (completeEntry_leaves e m _).after_same
      exact .ite (hdone.trans (timeoutTest_leaves _)) (memoryFailure_leaves _ s)

theorem recoverySucceeds_leaves (s : State) : LeavesPlans s (recoverySucceeds s) :=
  (enterStopped_leaves _).after_same

theorem endPulse_leaves (s : State) : LeavesPlans s (endPulse s) :=
  .ite (.ite ((recoverySucceeds_leaves _).after_same) .same) (.refl s)

theorem expireReadyWait_leaves (s : State) : LeavesPlans s (expireReadyWait s) := .ite .same (.refl s)

theorem memrdyRises_leaves (s : State) : LeavesPlans s (memrdyRises s) := by
  unfold memrdyRises
  split
  · exact recoverySucceeds_leaves s
  · exact .refl s
  · exact .refl s

theorem acceptUnbroken_leaves (p : Port) (r : Request) (s : State) : LeavesPlans s (acceptUnbroken p r s) := by
  unfold acceptUnbroken
  refine .ite ?_ .same
  split
  · exact .same
  · exact .same
  · exact .ite .same .same

theorem acceptRequest_leaves (p : Port) (r : Request) (s : State) : LeavesPlans s (acceptRequest p r s) := by
  unfold acceptRequest
  refine .ite .same ?_
  split
  · exact .same
  · exact acceptUnbroken_leaves p r s

theorem grantTo_leaves (c : Contender) (t : IssueTag) (s : State) : LeavesPlans s (grantTo c t s) := by
  cases c with
  | port p =>
    simp only [grantTo, grantPort]
    split
    · exact .refl s
    · exact .same
  | retire =>
    simp only [grantTo, grantRetire]
    split
    · exact .refl s
    · exact .same

theorem decideGrant_leaves (memReady : Bool) (s : State) : LeavesPlans s (decideGrant memReady s) := by
  unfold decideGrant
  refine .ite ?_ (.refl s)
  split
  · exact grantTo_leaves _ _ s
  · exact .refl s

theorem applyDevice_leaves (d : Device) (s : State) : LeavesPlans s (applyDevice d s) := by
  have hset : LeavesPlans s (setDevice d s) := by
    unfold setDevice restartTick
    split <;> exact .same
  have hcleared := hset.trans
    (LeavesPlans.ite (c := (s.device.bootPass && !d.bootPass) = true) (clearQueue_leaves .closed .p0 _) (.refl _))
  exact .ite hcleared (hcleared.trans (timeoutTest_leaves _))

theorem beginReset_leaves (s : State) : LeavesPlans s (beginReset s) :=
  (clearQueue_leaves _ _ _).after_same

theorem tickCheckRun_plan (p : Plan) (c : CheckRun) : (tickCheckRun p c).plan = c.plan := by
  unfold tickCheckRun
  split <;> rfl

theorem tickCheck_leaves (s : State) : LeavesPlans s (tickCheck s) :=
  ⟨rfl, by cases h : s.check <;> simp [tickCheck, h, tickCheckRun_plan], .inl rfl⟩

theorem tickReset_leaves (s : State) : LeavesPlans s (tickReset s) := .ite .same (.refl s)

theorem riseSelect_leaves (edges : Fin 8) (s : State) : LeavesPlans s (riseSelect edges s) := by
  unfold riseSelect
  split
  · split <;> exact .same
  · exact .same
  · exact .same
  · exact .same

theorem answerCommand_leaves (code : Byte) (r : Reply) (s : State) : LeavesPlans s (answerCommand code r s) := by
  unfold answerCommand
  split <;> exact .same

/-! ### Events that change the plan store -/

/-- Making a plan ACTIVE is `swappedTo` (R23, R30 step 2, R110). -/
theorem activate_eq (n : PlanName) (s : State) : activate n s = swappedTo n s := by
  by_cases h : (s.plans.get n.other).state = .active
  · have hcarried : carryEntries n.other s.posted = (swappedTo n s).posted := by simp [carryEntries, swappedTo, h]
    simp only [activate, h, if_true, hcarried]
    cases n <;> simp_all [swappedTo, setPlanState, mapPlan, PlanName.other, PerPlan.get, PerPlan.set]
  · cases n <;> simp_all [activate, swappedTo, setPlanState, mapPlan, PlanName.other, PerPlan.get, PerPlan.set]

theorem swappedTo_get (n m : PlanName) (s : State) : (swappedTo n s).plans.get m =
    if m = n then { s.plans.get n with state := .active }
    else { s.plans.get m with state := if (s.plans.get m).state = .active then .ready else (s.plans.get m).state } := by
  cases n <;> cases m <;> rfl

/-- A READY plan made ACTIVE with no swap pending. -/
theorem swappedTo_drifts {n : PlanName} {s : State} (hn : (s.plans.get n).state = .ready) (hs : s.sched.pendingSwap = none) :
    Drifts s (swappedTo n s) := by
  intro h
  refine ⟨⟨?_, ?_, ?_⟩, ?_⟩
  · have hother : ((swappedTo n s).plans.get n.other).state ≠ .active := by
      rw [swappedTo_get, if_neg (by cases n <;> simp [PlanName.other])]
      dsimp only
      split <;> simp_all
    rintro ⟨ha, hb⟩
    cases n
    · exact hother hb
    · exact hother ha
  · intro m hm
    have : s.sched.pendingSwap = some m := hm
    simp [hs] at this
  · intro m hm
    have hc := h.checked m hm
    have hmn : m ≠ n := by rintro rfl; simp [hn] at hc
    simp [swappedTo_get, hmn, hc]
  · intro m hm
    rw [swappedTo_get]
    by_cases hmn : m = n
    · subst hmn
      exact .inr ⟨by simp [hn], by simp, by simp⟩
    · by_cases he : (s.plans.get m).state = .edit
      · exact .inl (by simp [hmn, he])
      · refine .inr ⟨he, ?_, by simp [hmn]⟩
        rw [if_neg hmn]
        dsimp only
        split <;> simp [hm]

/-- Step 2 of a frame boundary (R30). -/
theorem makeSwap_drifts (s : State) : Drifts s (makeSwap s) := by
  intro h
  unfold makeSwap
  split
  · exact (LeavesPlans.refl s).drifts h
  · rename_i n hn
    have hwithdrawn : LeavesPlans s { s with sched := { s.sched with pendingSwap := none } } := ⟨rfl, rfl, .inr rfl⟩
    have hready : (s.plans.get n).state = .ready := h.target n hn
    rw [activate_eq]
    have hswap := hwithdrawn.drifts.trans (swappedTo_drifts (n := n) hready rfl)
    have hentered (t : State) : LeavesPlans t (raise .swapDone (planEntry t)) := (planEntry_leaves t).trans .same
    exact hswap.trans (hentered _).drifts h

theorem frameBoundary_drifts (s : State) : Drifts s (frameBoundary s) := by
  have hnext : LeavesPlans s (nextFrame s) := .same
  refine (hnext.drifts.trans (makeSwap_drifts _)).trans (LeavesPlans.drifts ?_)
  exact LeavesPlans.ite (enterStopped_leaves _) .same

theorem expireWindow_drifts (s : State) : Drifts s (expireWindow s) := by
  unfold expireWindow
  split
  · exact LeavesPlans.drifts .same
  · exact frameBoundary_drifts s

theorem takeWalkTick_drifts (s : State) : Drifts s (takeWalkTick s) := by
  have hlow : LeavesPlans s { s with sched := { s.sched with frameLine := false, walkOwed := false } } := .same
  simp only [takeWalkTick]
  split_ifs
  · exact hlow.drifts
  · exact hlow.drifts.trans (expireWindow_drifts _)
  · exact LeavesPlans.drifts .same

theorem takeOwedWalk_drifts (s : State) : Drifts s (takeOwedWalk s) := by
  unfold takeOwedWalk
  split
  · exact takeWalkTick_drifts s
  · exact (LeavesPlans.refl s).drifts

/-- The completion of a check rewrites the plan that was CHECKING, which is neither ACTIVE nor a swap's target (R21). -/
theorem completeCheck_drifts (s : State) : Drifts s (completeCheck s) := by
  intro h
  unfold completeCheck
  split
  · rename_i n f d hc
    have hchecking : (s.plans.get n).state = .checking := h.checked n (by simp [hc])
    have hn : s.sched.pendingSwap ≠ some n := fun hs => by simpa [hchecking] using h.target n hs
    refine ⟨h.rewritten (n := n) rfl ?_ rfl hn (by simp), fun m => ?_⟩
    · simp only [checkedPlan]
      split <;> simp
    · by_cases hmn : m = n
      · intro hm
        rw [hmn] at hm
        exact absurd hchecking hm
      · simp only [raise_plans, mapPlan, PerPlan.get_set, if_neg hmn]
        exact .refl _
  · exact (LeavesPlans.refl s).drifts h

theorem plansAfterReset_get (plans : PerPlan Plan) (n : PlanName) : ((plansAfterReset plans).get n).state = .edit := by
  cases n <;> rfl

theorem takeResetStep_drifts (s : State) : Drifts s (takeResetStep s) := by
  unfold takeResetStep
  split
  · exact drifts_of_edit (plansAfterReset_get s.plans) rfl rfl
  · exact (LeavesPlans.refl s).drifts

/-- Everything that a gate tick made due, in its order (log entry 4). -/
theorem takeDue_drifts (s : State) : Drifts s (takeDue s) := by
  have hwalk := (takeOwedWalk_drifts s).trans (expireAll_leaves _).drifts
  have hcheck := hwalk.trans (completeCheck_drifts _)
  have hmemory := ((timeoutTest_leaves (completeCheck (expireAll (takeOwedWalk s)))).trans (endPulse_leaves _)).trans
    (expireReadyWait_leaves _)
  exact (hcheck.trans hmemory.drifts).trans (takeResetStep_drifts _)

theorem tickWalk_drifts (s : State) : Drifts s (tickWalk s) := by
  unfold tickWalk
  split
  · exact LeavesPlans.drifts .same
  · exact takeWalkTick_drifts s

theorem gateTick_drifts (s : State) : Drifts s (gateTick s) := by
  have hdue : Drifts s { takeDue s with ticked := 0 } := (takeDue_drifts s).trans (LeavesPlans.drifts .same)
  have hcounts (t : State) : LeavesPlans t (tickMemory (tickDeadlines t)) := .same
  refine (hdue.trans (tickWalk_drifts _)).trans (LeavesPlans.drifts ?_)
  exact ((hcounts _).trans (tickCheck_leaves _)).trans (tickReset_leaves _)

theorem countCycle_drifts (s : State) : Drifts s (countCycle s) := by
  unfold countCycle
  split
  · exact LeavesPlans.drifts .same
  · exact (gateTick_drifts s).trans (takeDue_drifts _)

/-- What the outcome of a selected edge hands to the gate; an early cut is a frame boundary (R34, R45, R46). -/
theorem actOnOutcome_drifts (o : SyncOutcome) (s : State) : Drifts s (actOnOutcome o s) := by
  cases o with
  | started => exact (enterRunning_leaves s).drifts
  | earlyCut => exact frameBoundary_drifts s
  | lateRewind => exact LeavesPlans.drifts .same
  | outOfLimit => exact LeavesPlans.drifts .same
  | none => exact (LeavesPlans.refl s).drifts
  | observed => exact (LeavesPlans.refl s).drifts
  | inStep => exact (LeavesPlans.refl s).drifts

theorem seenEdge_drifts (e : SyncEdge) (s : State) : Drifts s (seenEdge e s) := by
  have hcaptured : LeavesPlans s (raise .syncCaptured { s with sync := { s.sync with capture := captureOf s } }) :=
    .same
  unfold seenEdge
  split
  · exact hcaptured.drifts.trans (actOnOutcome_drifts _ _)
  · exact (LeavesPlans.refl s).drifts

/-! ### The management commands -/

theorem refuse_settles {s : State} (h : PlanStore s) (r : Result) : Settles s (refuse r s).1 :=
  (LeavesPlans.refl s).settles h

/-- A plan write is taken only by a plan that is EDIT, or READY and no swap's target (R10). -/
theorem writable_of_writeRefusal {s : State} {n : PlanName} (h : writeRefusal s n = none) : Writable s n := by
  unfold writeRefusal at h
  unfold Writable
  cases hstate : (s.plans.get n).state <;> simp_all

/-- A plan rewritten to EDIT that was neither ACTIVE, nor CHECKING, nor a swap's target. -/
theorem toEdit_settles {s : State} (h : PlanStore s) {n : PlanName} (f : Plan → Plan) (hactive : (s.plans.get n).state ≠ .active)
    (hchecking : (s.plans.get n).state ≠ .checking) (hswap : s.sched.pendingSwap ≠ some n) :
    Settles s (mapPlan n (fun p => toEdit (f p)) s) := by
  refine ⟨h.rewritten (n := n) rfl (by simp [toEdit]) rfl hswap fun m hm => ?_, fun m hm _ => ?_⟩
  · have hmn : m ≠ n := by rintro rfl; exact hchecking (h.checked m hm)
    simpa [hmn] using hm
  · have hmn : m ≠ n := by rintro rfl; exact hactive hm
    simp [mapPlan, PerPlan.get_set, hmn]

theorem planWrite_settles {s : State} (h : PlanStore s) (plan : Byte) (change : Option (Plan → Plan)) :
    Settles s (planWrite plan change s).1 := by
  unfold planWrite
  split
  · exact refuse_settles h _
  · rename_i n _
    split
    · exact refuse_settles h _
    · exact refuse_settles h _
    · rename_i f hw
      rcases writable_of_writeRefusal hw with he | ⟨hr, hs⟩
      · exact toEdit_settles h f (by simp [he]) (by simp [he]) fun hs => by simpa [he] using h.target n hs
      · exact toEdit_settles h f (by simp [hr]) (by simp [hr]) hs

theorem takeCopyPlan_settles {s : State} (h : PlanStore s) : Settles s (takeCopyPlan s).1 := by
  simp only [takeCopyPlan]
  split
  · exact refuse_settles h _
  · rename_i n hn
    split_ifs with hchecking hswap
    · exact refuse_settles h _
    · exact refuse_settles h _
    · exact toEdit_settles h (fun _ => s.plans.get n) (h.other_not_active (activePlan_state hn)) hchecking hswap

/-- The plan that a check begins on is neither ACTIVE nor a swap's target (R18). -/
theorem takeCheckPlan_settles {s : State} (h : PlanStore s) (plan : Byte) : Settles s (takeCheckPlan plan s).1 := by
  simp only [takeCheckPlan]
  split
  · exact refuse_settles h _
  · rename_i n _
    split_ifs with hbusy hactive hswap
    · exact refuse_settles h _
    · exact refuse_settles h _
    · exact refuse_settles h _
    · refine ⟨h.rewritten (n := n) rfl (by simp) rfl hswap fun m hm => ?_, fun m hm _ => ?_⟩
      · obtain rfl : n = m := by simpa using hm
        simp
      · have hmn : m ≠ n := by rintro rfl; exact hactive hm
        simp [mapPlan, PerPlan.get_set, hmn]

/-- REQUEST SWAP in STOPPED finds no swap pending; in RUNNING it makes a READY plan the target (R23, R38). -/
theorem takeRequestSwap_settles {s : State} (h : PlanStore s) (hidle : s.sched.gate = .stopped → s.sched.pendingSwap = none)
    (plan : Byte) : Settles s (takeRequestSwap plan s).1 := by
  unfold takeRequestSwap
  split
  · exact refuse_settles h _
  · rename_i n _
    split
    · rename_i hg
      unfold swapStopped
      split_ifs with hready
      · rw [activate_eq]
        exact ((swappedTo_drifts hready (hidle hg)).settles h).trans_leaves .same
      · exact refuse_settles h _
    · unfold swapRunning
      split_ifs with hactive hready hbusy
      · exact refuse_settles h _
      · exact refuse_settles h _
      · exact refuse_settles h _
      · refine ⟨⟨h.one, fun m hm => ?_, h.checked⟩, fun _ _ _ => rfl⟩
        obtain rfl : n = m := by simpa using hm
        exact not_not.mp hready
    · exact refuse_settles h _
    · exact refuse_settles h _
    · exact refuse_settles h _

theorem takeReadFault_leaves (port take : Byte) (s : State) : LeavesPlans s (takeReadFault port take s).1 := by
  unfold takeReadFault
  split
  · exact .ite .same .same
  · exact .same

theorem takeReadSync_leaves (take : Byte) (s : State) : LeavesPlans s (takeReadSync take s).1 := by
  unfold takeReadSync
  split <;> exact .same

theorem takeTakeEvents_leaves (m : BitVec 16) (s : State) : LeavesPlans s (takeTakeEvents m s).1 := by
  unfold takeTakeEvents
  split <;> exact .same

theorem takeSetAlerts_leaves (m : BitVec 16) (s : State) : LeavesPlans s (takeSetAlerts m s).1 := by
  unfold takeSetAlerts
  split <;> exact .same

theorem takeReadPlanItem_leaves (n t i : Byte) (s : State) : LeavesPlans s (takeReadPlanItem n t i s).1 := by
  unfold takeReadPlanItem
  split
  · exact .same
  · split <;> exact .same

theorem takeSetDevice_leaves (d : Byte) (l : BitVec 16) (p b : Byte) (s : State) : LeavesPlans s (takeSetDevice d l p b s).1 := by
  unfold takeSetDevice
  split
  · split_ifs
    · exact .same
    · exact .same
    · exact applyDevice_leaves _ s
  · exact .same

theorem takeSetSync_leaves (m e : Byte) (l : BitVec 16) (s : State) : LeavesPlans s (takeSetSync m e l s).1 := by
  unfold takeSetSync
  split
  · split_ifs <;> exact .same
  · exact .same

theorem takeStart_leaves (mode : Byte) (s : State) : LeavesPlans s (takeStart mode s).1 := by
  unfold takeStart
  split_ifs
  · exact .same
  · exact .same
  · exact .same
  · exact enterRunning_leaves s
  · exact .same
  · exact .same

theorem takeHalt_leaves (s : State) : LeavesPlans s (takeHalt s).1 := by
  unfold takeHalt
  split
  · exact .same
  · exact .same
  · exact enterStopped_leaves s
  · exact .same
  · exact .same

/-- HALT NOW withdraws a pending swap (R24, R37). -/
theorem takeHaltNow_leaves (s : State) : LeavesPlans s (takeHaltNow s).1 := by
  have hwithdrawn : LeavesPlans s (withdrawPending s) := ⟨rfl, rfl, .inr rfl⟩
  have hstop := hwithdrawn.trans (enterStopped_leaves _)
  unfold takeHaltNow
  split
  · exact hstop
  · exact hstop
  · exact hstop
  · exact .same
  · exact .same

theorem takeRecover_leaves (s : State) : LeavesPlans s (takeRecover s).1 := by
  unfold takeRecover
  split_ifs <;> exact .same

theorem takeResetGate_leaves (s : State) : LeavesPlans s (takeResetGate s).1 := by
  unfold takeResetGate
  split
  · exact .same
  · exact .same
  · exact .same
  · exact (enterStopped_leaves s).trans (beginReset_leaves _)
  · exact beginReset_leaves s

/-- Every management command's rule settles the plan store. -/
theorem commandRule_settles {c : Instr} {rule : State → State × Reply} (hc : commandRule c = some rule) {s : State}
    (h : PlanStore s) (hidle : s.sched.gate = .stopped → s.sched.pendingSwap = none) : Settles s (rule s).1 := by
  have leaves {t : State} (hl : LeavesPlans s t) : Settles s t := hl.settles h
  cases c <;> cases hc
  case status => exact leaves .same
  case takeEvents m => exact leaves (takeTakeEvents_leaves m s)
  case readFault p t => exact leaves (takeReadFault_leaves p t s)
  case readSync t => exact leaves (takeReadSync_leaves t s)
  case readRecoveryReport => exact leaves .same
  case setAlerts m => exact leaves (takeSetAlerts_leaves m s)
  case setDevice d l p b => exact leaves (takeSetDevice_leaves d l p b s)
  case setSync m e l => exact leaves (takeSetSync_leaves m e l s)
  case writeWindow => exact planWrite_settles h _ _
  case setWindowCount => exact planWrite_settles h _ _
  case writeRegion => exact planWrite_settles h _ _
  case setRegionCount => exact planWrite_settles h _ _
  case writePortSettings => exact planWrite_settles h _ _
  case writeCosts => exact planWrite_settles h _ _
  case readPlanItem n t i => exact leaves (takeReadPlanItem_leaves n t i s)
  case copyPlan => exact takeCopyPlan_settles h
  case checkPlan n => exact takeCheckPlan_settles h n
  case requestSwap n => exact takeRequestSwap_settles h hidle n
  case withdrawSwap => exact leaves ⟨rfl, rfl, .inr rfl⟩
  case start m => exact leaves (takeStart_leaves m s)
  case halt => exact leaves (takeHalt_leaves s)
  case haltNow => exact leaves (takeHaltNow_leaves s)
  case recover => exact leaves (takeRecover_leaves s)
  case resetGate => exact leaves (takeResetGate_leaves s)

theorem takeCommand_settles {c : Instr} {rule : State → State × Reply} (hc : commandRule c = some rule) (code : Byte) {s : State}
    (h : PlanStore s) (hidle : s.sched.gate = .stopped → s.sched.pendingSwap = none) : Settles s (takeCommand code rule s) := by
  unfold takeCommand
  split
  · exact (answerCommand_leaves _ _ s).settles h
  · exact (commandRule_settles hc h hidle).trans_leaves (answerCommand_leaves _ _ _)

/-! ### Every step -/

/-- The byte that completes a frame takes its command; every other byte moves the link alone (R176, R178). -/
theorem takeByte_settles {s : State} (h : PlanStore s) (hidle : s.sched.gate = .stopped → s.sched.pendingSwap = none) (b : Byte) :
    Settles s (takeByte b s) := by
  have leaves {t : State} (hl : LeavesPlans s t) : Settles s t := hl.settles h
  unfold takeByte
  split
  · exact leaves .same
  · unfold commandByte takeCrcByte takeFrame
    split_ifs
    · dsimp only
      split
      · rename_i rule hrule
        obtain ⟨c, -, hc⟩ := Option.bind_eq_some_iff.mp hrule
        have hoff : LeavesPlans s (setDataOut 0xFF s) := .same
        exact takeCommand_settles hc _ (s := setDataOut 0xFF s) (hoff.planStore h) hidle
      · exact leaves .same
    · exact leaves .same
    · exact leaves .same
  · unfold responseByte
    split <;> exact leaves .same
  · exact leaves .same

/-- The management commands run their rule through the link. -/
theorem exec_of_commandRule {c : Instr} {rule : State → State × Reply} (hc : commandRule c = some rule) (s : State) :
    exec c s = commandStep c rule s := by
  cases c <;> cases hc <;> rfl

/-- An event that drifts, after an update that leaves the plans (the level of a pin). -/
theorem onEvent_settles {f : State → State} {s u t : State} (h : PlanStore s) (hu : LeavesPlans s u) (hf : ∀ v, Drifts v (f v))
    (ht : onEvent f u = .next t) : Settles s t := by
  have hquiet : Drifts u (quiet u) := LeavesPlans.drifts .same
  cases ht
  refine (hu.drifts.trans ?_).settles h
  split
  · exact hquiet
  · exact hquiet.trans (hf _)

theorem frameStep_settles {frame : List Byte} {f : State → State} {s t : State} (h : PlanStore s)
    (hf : Settles s (f (receiveFrame frame (quiet s)))) (ht : frameStep frame f s = .next t) : Settles s t := by
  have hquiet : Settles s (quiet s) := LeavesPlans.settles .same h
  cases ht
  split
  · exact hquiet
  · dsimp only
    split
    · exact hf
    · exact hquiet

theorem commandStep_settles {c : Instr} {rule : State → State × Reply} (hc : commandRule c = some rule) {s t : State}
    (h : PlanStore s) (hidle : s.sched.gate = .stopped → s.sched.pendingSwap = none) (ht : commandStep c rule s = .next t) :
    Settles s t := by
  unfold commandStep at ht
  split at ht
  · rename_i code operands _
    have hreceived : LeavesPlans s (receiveFrame (code :: operands) (quiet s)) := .same
    exact frameStep_settles h (takeCommand_settles hc code (hreceived.planStore h) hidle) ht
  · cases ht
    exact LeavesPlans.settles .same h

/-- The events that are no management command: those that drift, the resets, and what the link receives. -/
theorem event_settles {c : Instr} (hc : commandRule c = none) {s t : State} (h : PlanStore s)
    (hidle : s.sched.gate = .stopped → s.sched.pendingSwap = none) (ht : exec c s = .next t) : Settles s t := by
  have leaves {u : State} (hl : LeavesPlans s u) : Settles s u := hl.settles h
  cases c <;> cases hc
  case por => cases ht; exact (drifts_of_edit (fun n => by cases n <;> rfl) rfl rfl).settles h
  case rst => cases ht; exact (drifts_of_edit (plansAfterReset_get s.plans) rfl rfl).settles h
  case linkReset p =>
    simp only [exec, execLinkReset] at ht
    split at ht
    · cases ht; exact leaves .same
    · exact onEvent_settles h .same (fun _ => LeavesPlans.drifts .same) ht
  case linkResetRelease p => cases ht; exact leaves .same
  case gateTick => exact onEvent_settles h (.refl s) gateTick_drifts ht
  case windowExpiry => exact onEvent_settles h (.refl s) takeOwedWalk_drifts ht
  case holdLimitExpiry p => exact onEvent_settles h (.refl s) (fun v => (expireOne_leaves p v).drifts) ht
  case checkCompletion => exact onEvent_settles h (.refl s) completeCheck_drifts ht
  case timeout => exact onEvent_settles h (.refl s) (fun v => (timeoutTest_leaves v).drifts) ht
  case recoveryPulseEnd level =>
    exact onEvent_settles h (.refl s) (fun v => (LeavesPlans.ite (endPulse_leaves _).after_same (.refl v)).drifts) ht
  case memrdyAsserted => exact onEvent_settles h .same (fun v => (memrdyRises_leaves v).drifts) ht
  case readyWaitExpiry => exact onEvent_settles h (.refl s) (fun v => (expireReadyWait_leaves v).drifts) ht
  case resetStep => exact onEvent_settles h (.refl s) takeResetStep_drifts ht
  case syncEdge e => exact onEvent_settles h .same (seenEdge_drifts e) ht
  case requestArrival p r =>
    exact onEvent_settles h (.refl s) (fun v => (LeavesPlans.ite (acceptRequest_leaves p r v) (.refl v)).drifts) ht
  case grant ready => exact onEvent_settles h (.refl s) (fun v => (decideGrant_leaves ready v).drifts) ht
  case memoryResponse m => exact onEvent_settles h (.refl s) (fun v => (takeResponse_leaves m v).drifts) ht
  case chipSelectFall =>
    simp only [exec, execChipSelectFall] at ht
    split at ht
    · cases ht; exact leaves .same
    · exact onEvent_settles h .same (fun _ => LeavesPlans.drifts .same) ht
  case chipSelectRise edges =>
    simp only [exec, execChipSelectRise] at ht
    split at ht
    · exact onEvent_settles h .same (fun v => (riseSelect_leaves edges v).drifts) ht
    · cases ht; exact leaves .same
  case badCrc frame crc =>
    simp only [exec, execBadCrc] at ht
    split at ht
    · exact frameStep_settles h (leaves .same) ht
    · cases ht; exact leaves .same
  case unknown code =>
    simp only [exec, execUnknown] at ht
    split at ht
    · exact frameStep_settles h (leaves .same) ht
    · cases ht; exact leaves .same
  case linkByte b =>
    have hquiet : LeavesPlans s (quiet s) := .same
    cases ht
    split
    · exact leaves hquiet
    · exact takeByte_settles (s := quiet s) (hquiet.planStore h) hidle b
  case resetRelease =>
    simp only [exec, execResetRelease] at ht
    cases ht
    split <;> exact leaves .same

/-- Every command settles the plan store. -/
theorem exec_settles (c : Instr) {s t : State} (h : PlanStore s) (hidle : s.sched.gate = .stopped → s.sched.pendingSwap = none)
    (ht : exec c s = .next t) : Settles s t := by
  cases hc : commandRule c with
  | some rule => exact commandStep_settles hc h hidle (exec_of_commandRule hc s ▸ ht)
  | none => exact event_settles hc h hidle ht

/-- The reference clock, with no command waiting (log entry 10). -/
theorem clockCycle_settles {s t : State} (h : PlanStore s) (ht : clockCycle s = .next t) : Settles s t := by
  refine onEvent_settles h (.refl s) (fun v => ?_) ht
  split
  · exact takeDue_drifts v
  · exact countCycle_drifts v

theorem step_settles {s t : State} (h : PlanStore s) (hidle : s.sched.gate = .stopped → s.sched.pendingSwap = none)
    (ht : step s = .next t) : Settles s t := by
  unfold step at ht
  split at ht
  · exact clockCycle_settles h ht
  · rename_i c rest _
    have htaken : LeavesPlans s { s with pending := rest } := .same
    exact exec_settles c (s := { s with pending := rest }) (htaken.planStore h) hidle ht

/-- Settles O27: every step settles the plan store, which `PlanLaw` gives. -/
theorem activePlanIsFixed : Obligations.ActivePlanIsFixed := by
  intro s t _ hplan ht
  obtain ⟨hstore, hfixed⟩ := step_settles hplan.planStore hplan.no_swap_in_stopped ht
  exact ⟨hstore.one, hstore.target, hfixed⟩

end Sys2Proof.Machine
end

section
/-! SUPPORT. The plan commands and REQUEST SWAP as steps of the link: what the rule of each makes of the part and answers. -/

namespace Sys2Proof.Machine

-- One proof at a time, as in the section before.
set_option Elab.async false

/-! ### A command answered by its rule -/

/-- A management command without returned data, sent with no RESET GATE in progress: its rule is run on the part with the
frame received, which it leaves, and the result is answered (R178). -/
theorem commandStep_answered {c : Instr} {code : Byte} {operands : List Byte} {rule : State → State × Reply} {s t : State}
    {r : Result} (hc : encodeFrame c = some (code :: operands)) (hopen : Open c s) (hcode : code ≠ statusCode ∧ dataLength code = 0)
    (hrule : rule (receiveFrame (code :: operands) (quiet s)) = (receiveFrame (code :: operands) t, replyOnly r)) :
    commandStep c rule s = .next (answered code r [] t) := by
  have hidle : (receiveFrame (code :: operands) (quiet s)).link.resetting = false := hopen.2
  have hnone : replyData code (replyOnly r) = [] := by simp [replyData, replyOnly, hcode.2]
  rw [commandStep_of_sendable hc hopen.1, takeCommand_of_open hidle, hrule, answerCommand, if_neg hcode.1, hnone]
  rfl

/-- A refused command leaves all but the answer as it was. -/
theorem commandStep_refused {c : Instr} {code : Byte} {operands : List Byte} {rule : State → State × Reply} {s : State}
    {r : Result} (hc : encodeFrame c = some (code :: operands)) (hopen : Open c s) (hcode : code ≠ statusCode ∧ dataLength code = 0)
    (hrule : rule (receiveFrame (code :: operands) (quiet s)) = refuse r (receiveFrame (code :: operands) (quiet s))) :
    commandStep c rule s = .next (answered code r [] { s with out := Outputs.none }) :=
  commandStep_answered (t := quiet s) hc hopen hcode hrule

/-! ### Operands -/

@[simp] theorem planOf_planByte (n : PlanName) : planOf (planByte n) = some n := by cases n <;> rfl

theorem planOf_of_gt {b : Byte} (h : 1 < b.toNat) : planOf b = none := by
  unfold planOf
  split_ifs with h0 h1
  · simp [h0] at h
  · simp [h1] at h
  · rfl

@[simp] theorem portOf_portByte (p : Port) : portOf (portByte p) = some p := by cases p <;> rfl

theorem portOf_of_gt {b : Byte} (h : 3 < b.toNat) : portOf b = none := by
  unfold portOf
  split_ifs with h0 h1 h2 h3
  · simp [h0] at h
  · simp [h1] at h
  · simp [h2] at h
  · simp [h3] at h
  · rfl

theorem looseFlagOf_eq (b : Byte) : looseFlagOf b = decide (b ≠ 0) := by
  rw [Bool.eq_iff_iff]
  simp [looseFlagOf]

theorem openSetOf_eq (b : Byte) : openSetOf b = BitVec.ofNat 4 b.toNat := (BitVec.ofNat_toNat 4 b).symm

/-- The value of two rights bits (Table 11-3). -/
def rightsValue (v : Nat) : Rights := if v = 0 then .none else if v = 1 then .read else .readWrite

theorem rightOf_eq (v : BitVec 2) : rightOf v = if v.toNat = 3 then none else some (rightsValue v.toNat) := by
  revert v; decide

/-- The two rights bits of port `k` in a rights byte, P0 in the lowest. -/
theorem rightOf_extract (b : Byte) (k : Nat) :
    rightOf (b.extractLsb' (2 * k) 2) = if b.toNat / 4 ^ k % 4 = 3 then none else some (rightsValue (b.toNat / 4 ^ k % 4)) := by
  have hbits : (b.extractLsb' (2 * k) 2).toNat = b.toNat / 4 ^ k % 4 := by
    simp [BitVec.extractLsb'_toNat, Nat.shiftRight_eq_div_pow, pow_mul]
  rw [rightOf_eq, hbits]

theorem rightsOf_eq (b : Byte) :
    rightsOf b = if b.toNat / 4 ^ 0 % 4 ≠ 3 ∧ b.toNat / 4 ^ 1 % 4 ≠ 3 ∧ b.toNat / 4 ^ 2 % 4 ≠ 3 ∧ b.toNat / 4 ^ 3 % 4 ≠ 3
      then some ⟨rightsValue (b.toNat / 4 ^ 0 % 4), rightsValue (b.toNat / 4 ^ 1 % 4), rightsValue (b.toNat / 4 ^ 2 % 4),
        rightsValue (b.toNat / 4 ^ 3 % 4)⟩
      else none := by
  have h0 := rightOf_extract b 0
  have h1 := rightOf_extract b 1
  have h2 := rightOf_extract b 2
  have h3 := rightOf_extract b 3
  unfold rightsOf
  rw [h0, h1, h2, h3]
  split_ifs <;> simp_all

/-! ### Plan writes -/

theorem writeRefusal_of_writable {s : State} {n : PlanName} (h : Writable s n) : writeRefusal s n = none := by
  unfold writeRefusal
  rcases h with he | ⟨hr, hs⟩
  · simp [he]
  · simp [hr, hs]

/-- A plan write on a plan that can be written, in range: the plan is changed and becomes EDIT with report NONE (R10). -/
theorem planWrite_taken {s : State} {n : PlanName} (h : Writable s n) (f : Plan → Plan) :
    planWrite (planByte n) (some f) s = (mapPlan n (fun p => toEdit (f p)) s, replyOnly .done) := by
  simp [planWrite, writeRefusal_of_writable h]

/-- Out of range it is BAD_ARG. -/
theorem planWrite_badArg {s : State} {n : PlanName} (h : Writable s n) :
    planWrite (planByte n) none s = refuse .badArg s := by
  simp [planWrite, writeRefusal_of_writable h]

section
variable {c : Instr} {code : Byte} {operands : List Byte} {s : State} {n : PlanName} {change : Option (Plan → Plan)}

/-- The step of a plan write in range, on a plan that can be written (R10). -/
theorem planWrite_step_taken {f : Plan → Plan} (hw : Writable s n) (hc : encodeFrame c = some (code :: operands))
    (hopen : Open c s) (hcode : code ≠ statusCode ∧ dataLength code = 0) (hchange : change = some f) :
    commandStep c (planWrite (planByte n) change) s = .next (answered code .done [] { s with
      plans := s.plans.set n { f (s.plans.get n) with state := .edit, report := .none }, out := Outputs.none }) := by
  subst hchange
  have hrule := planWrite_taken (s := receiveFrame (code :: operands) (quiet s)) hw f
  exact commandStep_answered (t := mapPlan n (fun p => toEdit (f p)) (quiet s)) hc hopen hcode hrule

/-- The step of a plan write out of range, on a plan that can be written (R10). -/
theorem planWrite_step_badArg (hw : Writable s n) (hc : encodeFrame c = some (code :: operands)) (hopen : Open c s)
    (hcode : code ≠ statusCode ∧ dataLength code = 0) (hchange : change = none) :
    commandStep c (planWrite (planByte n) change) s = .next (answered code .badArg [] { s with out := Outputs.none }) := by
  subst hchange
  exact commandStep_refused hc hopen hcode (planWrite_badArg hw)

end

/-! ### The changes in range and out of range (R11 to R16) -/

theorem windowChange_of_inRange {i o d : Byte} {l : BitVec 16} (hi : i.toNat ≤ 31) (hl : l ≠ 0) :
    windowChange i l o d = some (fun p => { p with
      windows := p.windows.setIfInBounds i.toNat ⟨l.toNat, BitVec.ofNat 4 o.toNat, decide (d ≠ 0)⟩ }) := by
  rw [windowChange, if_pos ⟨Nat.lt_succ_of_le hi, hl⟩, openSetOf_eq, looseFlagOf_eq]

theorem windowChange_of_out {i o d : Byte} {l : BitVec 16} (h : 31 < i.toNat ∨ l = 0) : windowChange i l o d = none := by
  refine if_neg fun ⟨hi, hl⟩ => h.elim (fun hgt => ?_) hl
  exact absurd hi (Nat.not_lt.mpr hgt)

theorem windowCountChange_of_inRange {k : Byte} (h : k.toNat ≤ 32) :
    windowCountChange k = some (fun p => { p with windowCount := k.toNat }) := if_pos h

theorem windowCountChange_of_out {k : Byte} (h : 32 < k.toNat) : windowCountChange k = none := if_neg (Nat.not_le.mpr h)

theorem sizeInRange_iff (size : BitVec 40) :
    sizeInRange size.toNat = true ↔ size ≠ 0 ∧ size.toNat % 4096 = 0 ∧ size.toNat ≤ 4294967296 := by
  have hzero : size.toNat ≠ 0 ↔ size ≠ 0 := not_congr (BitVec.toNat_inj (y := 0))
  simp only [sizeInRange, Bool.and_eq_true, bne_iff_ne, beq_iff_eq, decide_eq_true_eq, and_assoc]
  exact and_congr hzero Iff.rfl

/-- The operands of WRITE REGION are in range (R3, R13). -/
def RegionInRange (i rights : Byte) (base : Addr) (size : BitVec 40) : Prop :=
  i.toNat ≤ 15 ∧ base.toNat % 4096 = 0 ∧ size ≠ 0 ∧ size.toNat % 4096 = 0 ∧ size.toNat ≤ 4294967296
    ∧ rights.toNat / 4 ^ 0 % 4 ≠ 3 ∧ rights.toNat / 4 ^ 1 % 4 ≠ 3 ∧ rights.toNat / 4 ^ 2 % 4 ≠ 3 ∧ rights.toNat / 4 ^ 3 % 4 ≠ 3

theorem regionChange_of_inRange {i rights q : Byte} {base : Addr} {size : BitVec 40} (h : RegionInRange i rights base size) :
    regionChange i base size rights q = some (fun p => { p with
      regions := p.regions.setIfInBounds i.toNat ⟨base, size.toNat,
        ⟨rightsValue (rights.toNat / 4 ^ 0 % 4), rightsValue (rights.toNat / 4 ^ 1 % 4),
          rightsValue (rights.toNat / 4 ^ 2 % 4), rightsValue (rights.toNat / 4 ^ 3 % 4)⟩, decide (q ≠ 0)⟩ }) := by
  obtain ⟨hi, hbase, hzero, hpage, hmax, hrights⟩ := h
  have hsize := (sizeInRange_iff size).mpr ⟨hzero, hpage, hmax⟩
  rw [regionChange, rightsOf_eq, if_pos hrights]
  simp only [if_pos (show i.toNat < Config.regionRecords ∧ base.toNat % Config.pageBytes = 0 ∧ sizeInRange size.toNat = true from
    ⟨Nat.lt_succ_of_le hi, hbase, hsize⟩), looseFlagOf_eq]

theorem regionChange_of_out {i rights q : Byte} {base : Addr} {size : BitVec 40} (h : ¬ RegionInRange i rights base size) :
    regionChange i base size rights q = none := by
  rw [regionChange, rightsOf_eq]
  by_cases hrights : rights.toNat / 4 ^ 0 % 4 ≠ 3 ∧ rights.toNat / 4 ^ 1 % 4 ≠ 3 ∧ rights.toNat / 4 ^ 2 % 4 ≠ 3
      ∧ rights.toNat / 4 ^ 3 % 4 ≠ 3
  · rw [if_pos hrights]
    refine if_neg fun ⟨hi, hbase, hsize⟩ => h ?_
    obtain ⟨hzero, hpage, hmax⟩ := (sizeInRange_iff size).mp hsize
    exact ⟨Nat.le_of_lt_succ hi, hbase, hzero, hpage, hmax, hrights⟩
  · rw [if_neg hrights]

theorem regionCountChange_of_inRange {k : Byte} (h : k.toNat ≤ 16) :
    regionCountChange k = some (fun p => { p with regionCount := k.toNat }) := if_pos h

theorem regionCountChange_of_out {k : Byte} (h : 16 < k.toNat) : regionCountChange k = none := if_neg (Nat.not_le.mpr h)

theorem settingsChange_of_inRange {p : Port} {q : Byte} {l : BitVec 16} (h : q.toNat ≤ 16) :
    settingsChange (portByte p) l q = some (fun x => { x with settings := x.settings.set p ⟨l.toNat, q.toNat⟩ }) := by
  rw [settingsChange, portOf_portByte]
  exact if_pos h

theorem settingsChange_of_out {p : Port} {q : Byte} {l : BitVec 16} (h : 16 < q.toNat) :
    settingsChange (portByte p) l q = none := by
  rw [settingsChange, portOf_portByte]
  exact if_neg (Nat.not_le.mpr h)

theorem settingsChange_of_no_port {port q : Byte} {l : BitVec 16} (h : 3 < port.toNat) : settingsChange port l q = none := by
  rw [settingsChange, portOf_of_gt h]

theorem costsChange_of_inRange {o b : Byte} (ho : o.toNat ≤ 63) (hb : b.toNat ≤ 15) :
    costsChange o b = some (fun p => { p with overhead := o.toNat, beatCost := b.toNat }) := if_pos ⟨ho, hb⟩

theorem costsChange_of_out {o b : Byte} (h : 63 < o.toNat ∨ 15 < b.toNat) : costsChange o b = none :=
  if_neg fun ⟨ho, hb⟩ => h.elim (Nat.not_lt.mpr ho) (Nat.not_lt.mpr hb)

/-- Settles O53: each write's `change` is what its rule says in range, and none out of range. -/
theorem planWritesReplaceTheirFields : Obligations.PlanWritesReplaceTheirFields := by
  refine ⟨fun n s hw => ⟨fun i o d l hopen => ⟨fun hi hl => ?_, fun hout => ?_⟩, fun k hopen => ⟨fun hk => ?_, fun hk => ?_⟩⟩,
    fun n s hw => ⟨fun i rights q base size hopen => ⟨fun hin => ?_, fun hout => ?_⟩, fun k hopen => ⟨fun hk => ?_, fun hk => ?_⟩⟩,
    fun n s hw => ⟨fun p q l hopen => ⟨fun hq => ?_, fun hq => ?_⟩, fun port q l hopen hport => ?_,
      fun o b hopen => ⟨fun ho hb => ?_, fun hout => ?_⟩⟩⟩
  · exact planWrite_step_taken hw rfl hopen (by decide) (windowChange_of_inRange hi hl)
  · exact planWrite_step_badArg hw rfl hopen (by decide) (windowChange_of_out hout)
  · exact planWrite_step_taken hw rfl hopen (by decide) (windowCountChange_of_inRange hk)
  · exact planWrite_step_badArg hw rfl hopen (by decide) (windowCountChange_of_out hk)
  · exact planWrite_step_taken hw rfl hopen (by decide) (regionChange_of_inRange hin)
  · exact planWrite_step_badArg hw rfl hopen (by decide) (regionChange_of_out hout)
  · exact planWrite_step_taken hw rfl hopen (by decide) (regionCountChange_of_inRange hk)
  · exact planWrite_step_badArg hw rfl hopen (by decide) (regionCountChange_of_out hk)
  · exact planWrite_step_taken hw rfl hopen (by decide) (settingsChange_of_inRange hq)
  · exact planWrite_step_badArg hw rfl hopen (by decide) (settingsChange_of_out hq)
  · exact planWrite_step_badArg hw rfl hopen (by decide) (settingsChange_of_no_port hport)
  · exact planWrite_step_taken hw rfl hopen (by decide) (costsChange_of_inRange ho hb)
  · exact planWrite_step_badArg hw rfl hopen (by decide) (costsChange_of_out hout)

/-! ### COPY PLAN and CHECK PLAN -/

section
variable {s : State} {n : PlanName}

theorem takeCopyPlan_no_active (h : activePlan s = none) : takeCopyPlan s = refuse .notReady s := by
  simp [takeCopyPlan, h]

theorem takeCopyPlan_busy (h : activePlan s = some n) (hchecking : (s.plans.get n.other).state = .checking) :
    takeCopyPlan s = refuse .busy s := by
  simp [takeCopyPlan, h, hchecking]

theorem takeCopyPlan_target (h : activePlan s = some n) (hchecking : (s.plans.get n.other).state ≠ .checking)
    (hswap : s.sched.pendingSwap = some n.other) : takeCopyPlan s = refuse .wrongState s := by
  simp [takeCopyPlan, h, hchecking, hswap]

theorem takeCopyPlan_taken (h : activePlan s = some n) (hchecking : (s.plans.get n.other).state ≠ .checking)
    (hswap : s.sched.pendingSwap ≠ some n.other) :
    takeCopyPlan s = (mapPlan n.other (fun _ => toEdit (s.plans.get n)) s, replyOnly .done) := by
  simp [takeCopyPlan, h, hchecking, hswap]

theorem takeCheckPlan_no_plan {plan : Byte} (h : 1 < plan.toNat) : takeCheckPlan plan s = refuse .badArg s := by
  simp [takeCheckPlan, planOf_of_gt h]

theorem takeCheckPlan_busy (h : s.check ≠ none) : takeCheckPlan (planByte n) s = refuse .busy s := by
  simp [takeCheckPlan, Option.isSome_iff_ne_none.mpr h]

theorem takeCheckPlan_active (h : s.check = none) (hactive : (s.plans.get n).state = .active) :
    takeCheckPlan (planByte n) s = refuse .planActive s := by
  simp [takeCheckPlan, h, hactive]

theorem takeCheckPlan_target (h : s.check = none) (hactive : (s.plans.get n).state ≠ .active)
    (hswap : s.sched.pendingSwap = some n) : takeCheckPlan (planByte n) s = refuse .wrongState s := by
  simp [takeCheckPlan, h, hactive, hswap]

/-- A check begun: nothing visited, nothing built (R18). -/
theorem takeCheckPlan_taken (h : s.check = none) (hactive : (s.plans.get n).state ≠ .active)
    (hswap : s.sched.pendingSwap ≠ some n) :
    takeCheckPlan (planByte n) s = (mapPlan n (fun p => { p with state := .checking, report := .none })
      { s with check := some ⟨n, firstPoint (s.plans.get n), Derived.zero, false⟩ }, replyOnly .accepted) := by
  simp [takeCheckPlan, h, hactive, hswap]

end

/-- Settles O54: COPY PLAN and CHECK PLAN by their tests, in order (R17, R18). -/
theorem copyAndCheckPlan : Obligations.CopyAndCheckPlan := by
  refine ⟨fun s hopen => ⟨fun hnone => ?_, fun n hn => ⟨fun hchecking => ?_, fun hchecking hswap => ?_, fun hchecking hswap => ?_⟩⟩,
    fun plan s hopen => ⟨fun hplan => ?_, ?_⟩⟩
  · exact commandStep_refused rfl hopen (by decide) (takeCopyPlan_no_active hnone)
  · exact commandStep_refused rfl hopen (by decide) (takeCopyPlan_busy hn hchecking)
  · exact commandStep_refused rfl hopen (by decide) (takeCopyPlan_target hn hchecking hswap)
  · exact commandStep_answered rfl hopen (by decide) (takeCopyPlan_taken hn hchecking hswap)
  · exact commandStep_refused rfl hopen (by decide) (takeCheckPlan_no_plan hplan)
  · rintro n rfl
    refine ⟨fun hbusy => ?_, fun hfree hactive => ?_, fun hfree hactive hswap => ?_, fun hfree hactive hswap => ?_⟩
    · exact commandStep_refused rfl hopen (by decide) (takeCheckPlan_busy hbusy)
    · exact commandStep_refused rfl hopen (by decide) (takeCheckPlan_active hfree hactive)
    · exact commandStep_refused rfl hopen (by decide) (takeCheckPlan_target hfree hactive hswap)
    · exact commandStep_answered rfl hopen (by decide) (takeCheckPlan_taken hfree hactive hswap)

/-! ### REQUEST SWAP -/

section
variable {s : State} {n : PlanName}

theorem takeRequestSwap_no_plan {plan : Byte} (h : 1 < plan.toNat) : takeRequestSwap plan s = refuse .badArg s := by
  simp [takeRequestSwap, planOf_of_gt h]

theorem takeRequestSwap_wrongState (h : s.sched.gate = .armed ∨ s.sched.gate = .halting ∨ s.sched.gate = .faulted) :
    takeRequestSwap (planByte n) s = refuse .wrongState s := by
  rcases h with h | h | h <;> simp [takeRequestSwap, h]

theorem takeRequestSwap_stopped (hg : s.sched.gate = .stopped) : takeRequestSwap (planByte n) s = swapStopped n s := by
  simp [takeRequestSwap, hg]

theorem takeRequestSwap_running (hg : s.sched.gate = .running) : takeRequestSwap (planByte n) s = swapRunning n s := by
  simp [takeRequestSwap, hg]

theorem takeRequestSwap_stopped_not_ready (hg : s.sched.gate = .stopped) (h : (s.plans.get n).state ≠ .ready) :
    takeRequestSwap (planByte n) s = refuse .notReady s := by
  rw [takeRequestSwap_stopped hg, swapStopped, if_neg h]

/-- The activation of R23. -/
theorem takeRequestSwap_stopped_ready (hg : s.sched.gate = .stopped) (h : (s.plans.get n).state = .ready) :
    takeRequestSwap (planByte n) s = (raise .swapDone (swappedTo n s), replyOnly .done) := by
  rw [takeRequestSwap_stopped hg, swapStopped, if_pos h, activate_eq]

theorem takeRequestSwap_running_active (hg : s.sched.gate = .running) (h : (s.plans.get n).state = .active) :
    takeRequestSwap (planByte n) s = refuse .planActive s := by
  rw [takeRequestSwap_running hg, swapRunning, if_pos h]

theorem takeRequestSwap_running_not_ready (hg : s.sched.gate = .running)
    (h : (s.plans.get n).state = .edit ∨ (s.plans.get n).state = .checking) :
    takeRequestSwap (planByte n) s = refuse .notReady s := by
  rcases h with h | h <;> simp [takeRequestSwap_running hg, swapRunning, h]

theorem takeRequestSwap_running_busy (hg : s.sched.gate = .running) (h : (s.plans.get n).state = .ready)
    (hswap : s.sched.pendingSwap ≠ none) : takeRequestSwap (planByte n) s = refuse .busy s := by
  simp [takeRequestSwap_running hg, swapRunning, h, Option.isSome_iff_ne_none.mpr hswap]

/-- The swap made pending of R38. -/
theorem takeRequestSwap_running_taken (hg : s.sched.gate = .running) (h : (s.plans.get n).state = .ready)
    (hswap : s.sched.pendingSwap = none) : takeRequestSwap (planByte n) s =
      ({ s with sched := { s.sched with pendingSwap := some n } }, replyOnly .accepted) := by
  simp [takeRequestSwap_running hg, swapRunning, h, hswap]

end

/-- Settles O55: REQUEST SWAP by the gate state, then by the tests of R23 or R38, in order. -/
theorem requestSwapActivatesOrPends : Obligations.RequestSwapActivatesOrPends := by
  refine fun plan s hopen => ⟨fun hplan => ?_, ?_⟩
  · exact commandStep_refused rfl hopen (by decide) (takeRequestSwap_no_plan hplan)
  · rintro n rfl
    refine ⟨fun hg => ?_, fun hg hn => ?_, fun hg hn => ?_, fun hg hn => ?_, fun hg hn => ?_, fun hg hn hswap => ?_,
      fun hg hn hswap => ?_⟩
    · exact commandStep_refused rfl hopen (by decide) (takeRequestSwap_wrongState hg)
    · exact commandStep_refused rfl hopen (by decide) (takeRequestSwap_stopped_not_ready hg hn)
    · exact commandStep_answered rfl hopen (by decide) (takeRequestSwap_stopped_ready hg hn)
    · exact commandStep_refused rfl hopen (by decide) (takeRequestSwap_running_active hg hn)
    · exact commandStep_refused rfl hopen (by decide) (takeRequestSwap_running_not_ready hg hn)
    · exact commandStep_refused rfl hopen (by decide) (takeRequestSwap_running_busy hg hn hswap)
    · exact commandStep_answered rfl hopen (by decide) (takeRequestSwap_running_taken hg hn hswap)

end Sys2Proof.Machine
end

section
/-! SUPPORT. Plan entry port by port (R88), which an entry to RUNNING ends with, and START, HALT, HALT NOW and WITHDRAW SWAP
as steps of the link. -/

namespace Sys2Proof.Machine

-- One proof at a time, as in the sections before.
set_option Elab.async false

/-! ### Faults handed one after another -/

theorem noFaults_iff (k : Port → List FaultInfo) : (allPorts.all fun p => (k p).isEmpty) = true ↔ k = fun _ => [] := by
  simp [funext_iff, mem_allPorts]

theorem faultsTaken_nil (e : EventUnit) : faultsTaken (fun _ => []) e = e := if_pos ((noFaults_iff _).mpr rfl)

theorem faultsTaken_of_some {k : Port → List FaultInfo} (h : k ≠ fun _ => []) (e : EventUnit) :
    faultsTaken k e = eventsWith 0x001 { e with faults := perPort (fun p => (k p).foldl bumped (e.faults.get p)) } :=
  if_neg fun hk => h ((noFaults_iff k).mp hk)

/-- Faults handed in two rounds are the faults of both rounds, port by port (R172). -/
theorem faultsTaken_faultsTaken (f g : Port → List FaultInfo) (e : EventUnit) :
    faultsTaken g (faultsTaken f e) = faultsTaken (fun p => f p ++ g p) e := by
  by_cases hf : f = fun _ => []
  · subst hf
    simp [faultsTaken_nil]
  by_cases hg : g = fun _ => []
  · subst hg
    simp [faultsTaken_nil]
  have hfg : (fun p => f p ++ g p) ≠ fun _ => [] := fun h => hf <| funext fun p =>
    (List.append_eq_nil_iff.mp (congrFun h p)).1
  simp [faultsTaken_of_some hf, faultsTaken_of_some hg, faultsTaken_of_some hfg, eventsWith, BitVec.or_assoc]

theorem handFault_eq_faultsTaken (p : Port) (i : FaultInfo) (s : State) :
    handFault p i s = { s with events := faultsTaken (faultsOf p [i]) s.events } := by
  rw [handFault_eq]
  cases p <;> simp [faultsTaken, faultsOf, allPorts, perPort, PerPort.get, PerPort.set]

theorem faultsOf_nil (p : Port) : faultsOf p [] = fun _ => [] := by
  funext q
  simp [faultsOf]

theorem faultsTaken_cons (p : Port) (i : FaultInfo) (l : List FaultInfo) (e : EventUnit) :
    faultsTaken (faultsOf p l) (faultsTaken (faultsOf p [i]) e) = faultsTaken (faultsOf p (i :: l)) e := by
  rw [faultsTaken_faultsTaken]
  congr 1
  funext q
  by_cases h : q = p <;> simp [faultsOf, h]

/-! ### Plan entry -/

/-- A request that passes plan entry joins the tail with its new record (R88 steps 3 and 4). -/
theorem enterHeld_passed {s : State} {p : Port} {h : Held} (hpass : entryRefusal s p h = none) :
    enterHeld p s h = mapPort p (fun u => { u with queue := u.queue ++ [entryRecord s p h] }) s := by
  have hrecord : recost (governing s) p h = entryRecord s p h := by
    unfold recost entryRecord deadlineOf planCost
    cases h.deadline <;> simp
  unfold entryRefusal at hpass
  simp only [enterHeld]
  cases hv : verdict (governing s) p h.kind h.addr h.beats <;> simp_all [refusalOf]

/-- A request that plan entry refuses is answered and handed as a fault (R88 step 2). -/
theorem enterHeld_refused {s : State} {p : Port} {h : Held} {status : Status} {reason : FaultReason}
    (hrefuse : entryRefusal s p h = some (status, reason)) : enterHeld p s h = rejectHeld p status reason h s := by
  unfold entryRefusal at hrefuse
  simp only [enterHeld]
  cases hv : verdict (governing s) p h.kind h.addr h.beats <;> simp_all [refusalOf]

/-- The requests of a list that plan entry refuses on a port, with the status and reason of each. -/
def refusedOf (s : State) (p : Port) (l : List Held) : List (Held × Status × FaultReason) :=
  l.filterMap (fun h => (entryRefusal s p h).map (fun x => (h, x)))

/-- The part after plan entry of a list of requests of a port, walked in the order of the list (R88). -/
def enteredList (p : Port) (l : List Held) (s : State) : State :=
  { s with
    ports := s.ports.set p { s.ports.get p with
      queue := (s.ports.get p).queue ++ (l.filter (fun h => (entryRefusal s p h).isNone)).map (entryRecord s p)
      tags := tagsWithout (s.ports.get p).tags ((refusedOf s p l).map (·.1.tag)) }
    events := faultsTaken (faultsOf p ((refusedOf s p l).map
      (fun x => faultNow s x.2.2 x.1.tag x.1.kind x.1.addr x.1.beats))) s.events
    out := { s.out with responses := s.out.responses.set p (s.out.responses.get p ++
      (refusedOf s p l).map (fun x => refusalTo x.2.1 x.1.tag)) } }

theorem enterHeld_foldl (p : Port) (l : List Held) (s : State) : l.foldl (enterHeld p) s = enteredList p l s := by
  induction l generalizing s with
  | nil =>
    have hports : s.ports.set p { s.ports.get p with } = s.ports := PerPort.set_get_self _ p
    simp [enteredList, refusedOf, tagsWithout_nil, faultsOf_nil, faultsTaken_nil, PerPort.set_get_self, hports]
  | cons h l ih =>
    rw [List.foldl_cons, ih]
    cases hv : entryRefusal s p h with
    | none =>
      have hrefused : refusedOf s p (h :: l) = refusedOf s p l := by simp [refusedOf, hv]
      have hkept : (h :: l).filter (fun h => (entryRefusal s p h).isNone) =
          h :: l.filter (fun h => (entryRefusal s p h).isNone) := by simp [hv]
      rw [enterHeld_passed hv]
      simp only [enteredList, hrefused, hkept, List.map_cons, mapPort, PerPort.get_set_same, PerPort.set_set,
        List.append_assoc, List.singleton_append]
      rfl
    | some x =>
      have hrefused : refusedOf s p (h :: l) = (h, x) :: refusedOf s p l := by simp [refusedOf, hv]
      have hkept : (h :: l).filter (fun h => (entryRefusal s p h).isNone) =
          l.filter (fun h => (entryRefusal s p h).isNone) := by simp [hv]
      rw [enterHeld_refused hv, rejectHeld, handFault_eq_faultsTaken]
      simp only [enteredList, hrefused, hkept, List.map_cons, answer, mapPort, give, ← tagsWithout_cons,
        faultsTaken_cons, PerPort.get_set_same, PerPort.set_set, List.append_assoc, List.singleton_append]
      rfl

/-- Plan entry of one port's queue (R88). -/
theorem enterQueue_eq (p : Port) (s : State) :
    enterQueue p s = enteredList p (s.ports.get p).queue (mapPort p (fun u => { u with queue := [] }) s) :=
  enterHeld_foldl _ _ _

/-- The faults of each port, handed port after port in walk order. -/
theorem faultsOf_walk (f : Port → List FaultInfo) (e : EventUnit) :
    allPorts.foldl (fun e p => faultsTaken (faultsOf p (f p)) e) e = faultsTaken f e := by
  simp only [allPorts, List.foldl_cons, List.foldl_nil, faultsTaken_faultsTaken]
  congr 1
  funext p
  cases p <;> simp [faultsOf]

/-- Plan entry is `enteredFrom` (R78, R88). -/
theorem planEntry_eq (s : State) : planEntry s = enteredFrom s := by
  rw [planEntry, enteredFrom, ← faultsOf_walk]
  simp only [allPorts, List.foldl_cons, List.foldl_nil, enterQueue_eq]
  simp only [enteredList, mapPort, perPort, PerPort.get, PerPort.set, List.nil_append]
  rfl

/-- An entry to RUNNING is `runningFrom` (R35). -/
theorem enterRunning_eq (s : State) : enterRunning s = runningFrom s := by
  rw [enterRunning, planEntry_eq]
  rfl

theorem runningFrom_receiveFrame (frame : List Byte) (s : State) :
    runningFrom (receiveFrame frame s) = receiveFrame frame (runningFrom s) := rfl

/-! ### START -/

section
variable {mode : Byte} {s : State}

theorem takeStart_badArg (h : 1 < mode.toNat) : takeStart mode s = refuse .badArg s := by
  have hmode : mode ≠ 0 ∧ mode ≠ 1 := ⟨by rintro rfl; simp at h, by rintro rfl; simp at h⟩
  exact if_pos hmode

/-- The mode operand is IMMEDIATE or ON_SYNC (Table 11-3). -/
theorem startMode_of_le (h : mode.toNat ≤ 1) : ¬(mode ≠ 0x00 ∧ mode ≠ 0x01) := by
  bv_omega

theorem takeStart_wrongState (h : mode.toNat ≤ 1) (hg : s.sched.gate ≠ .stopped) : takeStart mode s = refuse .wrongState s := by
  rw [takeStart, if_neg (startMode_of_le h), if_pos hg]

theorem takeStart_notReady (h : mode.toNat ≤ 1) (hg : s.sched.gate = .stopped) (hplan : activePlan s = none) :
    takeStart mode s = refuse .notReady s := by
  rw [takeStart, if_neg (startMode_of_le h), if_neg (not_not.mpr hg), if_pos hplan]

/-- START with IMMEDIATE (R35). -/
theorem takeStart_immediate (hg : s.sched.gate = .stopped) (hplan : activePlan s ≠ none) :
    takeStart 0 s = (runningFrom s, replyOnly .done) := by
  simp [takeStart, hg, hplan, enterRunning_eq]

theorem takeStart_onSync_off (hg : s.sched.gate = .stopped) (hplan : activePlan s ≠ none) (hsync : s.sync.mode = .off) :
    takeStart 1 s = refuse .badArg s := by
  simp [takeStart, hg, hplan, hsync]

/-- START with ON_SYNC arms the gate (R33). -/
theorem takeStart_onSync (hg : s.sched.gate = .stopped) (hplan : activePlan s ≠ none) (hsync : s.sync.mode ≠ .off) :
    takeStart 1 s = ({ s with sched := { s.sched with gate := .armed, startOnSync := true } }, replyOnly .accepted) := by
  simp [takeStart, hg, hplan, hsync]

end

/-- Settles O57: START by its tests, in order (R33, R35). -/
theorem startRunsOrArms : Obligations.StartRunsOrArms := by
  refine fun mode s hopen => ⟨fun hmode => ?_, fun hmode hg => ?_, fun hmode hg hplan => ?_, ?_, ?_, ?_⟩
  · exact commandStep_refused rfl hopen (by decide) (takeStart_badArg hmode)
  · exact commandStep_refused rfl hopen (by decide) (takeStart_wrongState hmode hg)
  · exact commandStep_refused rfl hopen (by decide) (takeStart_notReady hmode hg hplan)
  · rintro rfl hg hplan
    refine commandStep_answered (t := runningFrom (quiet s)) rfl hopen (by decide) ?_
    rw [← runningFrom_receiveFrame]
    exact takeStart_immediate hg hplan
  · rintro rfl hg hplan hsync
    exact commandStep_refused rfl hopen (by decide) (takeStart_onSync_off hg hplan hsync)
  · rintro rfl hg hplan hsync
    exact commandStep_answered rfl hopen (by decide) (takeStart_onSync hg hplan hsync)

/-! ### HALT, HALT NOW and WITHDRAW SWAP -/

theorem stoppedFrom_receiveFrame (frame : List Byte) (s : State) :
    stoppedFrom (receiveFrame frame s) = receiveFrame frame (stoppedFrom s) := rfl

section
variable {s : State}

theorem takeHalt_running (hg : s.sched.gate = .running) :
    takeHalt s = ({ s with sched := { s.sched with gate := .halting, pendingHalt := true } }, replyOnly .accepted) := by
  simp [takeHalt, hg]

theorem takeHalt_halting (hg : s.sched.gate = .halting) : takeHalt s = refuse .done s := by
  simp [takeHalt, hg, refuse]

theorem takeHalt_armed (hg : s.sched.gate = .armed) : takeHalt s = (stoppedFrom s, replyOnly .done) := by
  simp [takeHalt, hg, enterStopped_eq]

theorem takeHalt_wrongState (hg : s.sched.gate = .stopped ∨ s.sched.gate = .faulted) : takeHalt s = refuse .wrongState s := by
  rcases hg with hg | hg <;> simp [takeHalt, hg]

/-- HALT NOW stops the gate at once and withdraws a pending swap (R37). -/
theorem takeHaltNow_stops (hg : s.sched.gate = .running ∨ s.sched.gate = .halting ∨ s.sched.gate = .armed) :
    takeHaltNow s = (stoppedFrom (withdrawPending s), replyOnly .done) := by
  rcases hg with hg | hg | hg <;> simp [takeHaltNow, hg, enterStopped_eq]

theorem takeHaltNow_wrongState (hg : s.sched.gate = .stopped ∨ s.sched.gate = .faulted) :
    takeHaltNow s = refuse .wrongState s := by
  rcases hg with hg | hg <;> simp [takeHaltNow, hg]

end

/-- Settles O58: HALT and HALT NOW by the gate state (R36, R37). -/
theorem haltsStopTheGate : Obligations.HaltsStopTheGate := by
  refine fun s => ⟨fun hopen => ⟨fun hg => ?_, fun hg => ?_, fun hg => ?_, fun hg => ?_⟩, fun hopen => ⟨fun hg => ?_, fun hg => ?_⟩⟩
  · exact commandStep_answered rfl hopen (by decide) (takeHalt_running hg)
  · exact commandStep_refused rfl hopen (by decide) (takeHalt_halting hg)
  · refine commandStep_answered (t := stoppedFrom (quiet s)) rfl hopen (by decide) ?_
    rw [← stoppedFrom_receiveFrame]
    exact takeHalt_armed hg
  · exact commandStep_refused rfl hopen (by decide) (takeHalt_wrongState hg)
  · refine commandStep_answered (t := stoppedFrom (withdrawPending (quiet s))) rfl hopen (by decide) ?_
    rw [← stoppedFrom_receiveFrame]
    exact takeHaltNow_stops hg
  · exact commandStep_refused rfl hopen (by decide) (takeHaltNow_wrongState hg)

/-- Settles O56: WITHDRAW SWAP reads no gate state (R39). -/
theorem withdrawSwapIsDone : Obligations.WithdrawSwapIsDone := fun s hopen =>
  commandStep_answered (rule := takeWithdrawSwap) (t := withdrawPending (quiet s)) rfl hopen (by decide) rfl

end Sys2Proof.Machine
end

section
/-! SUPPORT. What one step makes of the part, said once for every command: the link and the pins alone, one event of the
part, or the rule of one management command. Invariants of the part are proved over these three cases. -/

namespace Sys2Proof.Machine

-- One proof at a time, as in the sections before.
set_option Elab.async false

/-! ### Steps that leave the part to itself -/

/-- All that the part works with is left: the queues and tags, the plans, the schedule, the buffer, the memory port but the
level of MEMRDY, the sync unit but the level of SYNC, the settings, and the progress of RESET GATE. The transaction on the
link, the event unit, the levels of the pins and the counts of the clock are free. -/
structure Idle (s t : State) : Prop where
  queue : ∀ p, (t.ports.get p).queue = (s.ports.get p).queue := by intro p; rfl
  tags : ∀ p, (t.ports.get p).tags = (s.ports.get p).tags := by intro p; rfl
  plans : t.plans = s.plans := by rfl
  check : t.check = s.check := by rfl
  sched : t.sched = s.sched := by rfl
  posted : t.posted = s.posted := by rfl
  lastWinner : t.lastWinner = s.lastWinner := by rfl
  mem : { t.mem with memrdy := s.mem.memrdy } = s.mem := by rfl
  sync : { t.sync with level := s.sync.level } = s.sync := by rfl
  device : t.device = s.device := by rfl
  resetting : t.link.resetting = s.link.resetting := by rfl
  resetDue : t.link.resetDue = s.link.resetDue := by rfl

namespace Idle

theorem refl (s : State) : Idle s s := {}

theorem trans {s t u : State} (h : Idle s t) (h' : Idle t u) : Idle s u where
  queue p := (h'.queue p).trans (h.queue p)
  tags p := (h'.tags p).trans (h.tags p)
  plans := h'.plans.trans h.plans
  check := h'.check.trans h.check
  sched := h'.sched.trans h.sched
  posted := h'.posted.trans h.posted
  lastWinner := h'.lastWinner.trans h.lastWinner
  mem := by rw [← h.mem, ← h'.mem]
  sync := by rw [← h.sync, ← h'.sync]
  device := h'.device.trans h.device
  resetting := h'.resetting.trans h.resetting
  resetDue := h'.resetDue.trans h.resetDue

theorem leavesPlans {s t : State} (h : Idle s t) : LeavesPlans s t := .same h.plans h.check (by rw [h.sched])

end Idle

theorem quiet_idle (s : State) : Idle s (quiet s) := {}

theorem setLinkReset_idle (p : Port) (level : Bool) (s : State) : Idle s (setLinkReset p level s) where
  queue q := by cases p <;> cases q <;> rfl
  tags q := by cases p <;> cases q <;> rfl

theorem receiveFrame_idle (frame : List Byte) (s : State) : Idle s (receiveFrame frame s) := {}

theorem answerCommand_idle (code : Byte) (r : Reply) (s : State) : Idle s (answerCommand code r s) := by
  unfold answerCommand
  split <;> exact {}

theorem riseSelect_idle (edges : Fin 8) (s : State) : Idle s (riseSelect edges s) := by
  unfold riseSelect
  split
  · split <;> exact {}
  · exact {}
  · exact {}
  · exact {}

theorem responseByte_idle (s : State) : Idle s (responseByte s) := by
  unfold responseByte
  split <;> exact {}

/-! ### The events of the part and the steps -/

/-- One event of the part: a reset, an event of a port or the memory, or the reference clock with nothing waiting. -/
inductive PartEvent (s : State) : State → Prop
  | powerOn : PartEvent s (resetWith State.reset.plans s)
  | pinReset : PartEvent s (resetWith (plansAfterReset s.plans) s)
  | linkReset (p : Port) : PartEvent s (resetPort p s)
  | gateTick : PartEvent s (gateTick s)
  | windowExpiry : PartEvent s (takeOwedWalk s)
  | holdLimitExpiry (p : Port) : PartEvent s (expireOne p s)
  | checkCompletion : PartEvent s (completeCheck s)
  | timeout : PartEvent s (timeoutTest s)
  | pulseEnd : PartEvent s (endPulse s)
  | memrdyRise : PartEvent s (memrdyRises s)
  | readyWaitExpiry : PartEvent s (expireReadyWait s)
  | resetStep : PartEvent s (takeResetStep s)
  | syncEdge (e : SyncEdge) : PartEvent s (seenEdge e s)
  | arrival (p : Port) (r : Request) (hready : portReady s p = true) (hr : r.wellFormed = true) :
      PartEvent s (acceptRequest p r s)
  | grant (memReady : Bool) : PartEvent s (decideGrant memReady s)
  | memoryResponse (m : MemResponse) : PartEvent s (takeResponse m s)
  | due : PartEvent s (takeDue s)
  | clock (hdue : somethingDue s = false) : PartEvent s (countCycle s)

/-- What one step makes of the part. A command's rule runs only with no RESET GATE in progress, STATUS apart (R181). -/
inductive Moves (s t : State) : Prop
  | idle (h : Idle s t)
  | event {u : State} (before : Idle s u) (h : PartEvent u t)
  | command {c : Instr} {rule : State → State × Reply} {u : State} (hc : commandRule c = some rule) (before : Idle s u)
      (hopen : u.link.resetting = true → c = .status) (after : Idle (rule u).1 t)

theorem Moves.after_idle {s u t : State} (h : Idle s u) (hm : Moves u t) : Moves s t := by
  cases hm with
  | idle h' => exact .idle (h.trans h')
  | event before he => exact .event (h.trans before) he
  | command hc before hopen after => exact .command hc (h.trans before) hopen after

/-- A command that reaches the part, after an update of the levels of its pins. -/
theorem onEvent_moves {f : State → State} {s u t : State} (hu : Idle s u) (hf : ∀ v, Idle s v → Moves s (f v))
    (ht : onEvent f u = .next t) : Moves s t := by
  have hquiet : Idle s (quiet u) := hu.trans (quiet_idle u)
  cases ht
  split
  · exact .idle hquiet
  · exact hf _ hquiet

/-- An event of the part reaches it. -/
theorem onEvent_event {f : State → State} {s u t : State} (hu : Idle s u) (hf : ∀ v, PartEvent v (f v))
    (ht : onEvent f u = .next t) : Moves s t :=
  onEvent_moves hu (fun v hv => .event hv (hf v)) ht

theorem frameStep_moves {frame : List Byte} {f : State → State} {s t : State} (hf : ∀ v, Idle s v → Moves s (f v))
    (ht : frameStep frame f s = .next t) : Moves s t := by
  refine onEvent_moves (.refl s) (fun v hv => ?_) ht
  split
  · exact hf _ (hv.trans (receiveFrame_idle frame v))
  · exact .idle hv

/-- A command is taken: BUSY while RESET GATE is in progress, STATUS apart, and else by its rule (R178, R181). -/
theorem takeCommand_moves {c : Instr} {rule : State → State × Reply} {code : Byte} {s u : State}
    (hc : commandRule c = some rule) (hcode : code = statusCode → c = .status) (hu : Idle s u) :
    Moves s (takeCommand code rule u) := by
  unfold takeCommand
  split
  · exact .idle (hu.trans (answerCommand_idle _ _ u))
  · rename_i hopen
    refine .command hc hu (fun hr => hcode ?_) (answerCommand_idle _ _ _)
    simpa [hr] using hopen

theorem decodeFrame_status {operands : List Byte} {c : Instr} (h : decodeFrame (statusCode :: operands) = some c) :
    c = .status := by
  cases operands with
  | nil => exact (Option.some.inj h).symm
  | cons b l =>
    have hnone : decodeFrame (statusCode :: b :: l) = none := rfl
    rw [hnone] at h
    cases h

theorem encodeFrame_status {c : Instr} {operands : List Byte} (h : encodeFrame c = some (statusCode :: operands)) :
    c = .status := by
  have hcode : (encodeFrame c).bind List.head? = some statusCode := by simp [h]
  cases c <;> cases hcode
  rfl

theorem takeFrame_moves {frame : List Byte} {s u : State} (hu : Idle s u) : Moves s (takeFrame frame u) := by
  simp only [takeFrame]
  split
  · rename_i rule hrule
    obtain ⟨c, hframe, hc⟩ := Option.bind_eq_some_iff.mp hrule
    refine takeCommand_moves hc (fun hcode => ?_) hu
    cases frame with
    | nil => cases hframe
    | cons code operands => exact decodeFrame_status (operands := operands) (hcode ▸ hframe)
  · exact .idle (hu.trans {})

/-- The byte that completes a frame takes its command; every other byte moves the link alone (R176, R178). -/
theorem takeByte_moves {b : Byte} {s u : State} (hu : Idle s u) : Moves s (takeByte b u) := by
  have hoff : Idle s (setDataOut 0xFF u) := hu.trans {}
  unfold takeByte
  split
  · exact .idle hu
  · unfold commandByte takeCrcByte
    split_ifs
    · exact takeFrame_moves hoff
    · exact .idle (hoff.trans {})
    · exact .idle (hoff.trans {})
  · exact .idle (hu.trans (responseByte_idle u))
  · exact .idle hoff

theorem commandStep_moves {c : Instr} {rule : State → State × Reply} {s t : State} (hc : commandRule c = some rule)
    (ht : commandStep c rule s = .next t) : Moves s t := by
  unfold commandStep at ht
  split at ht
  · rename_i code operands hframe
    exact frameStep_moves (fun v => takeCommand_moves hc fun hcode => encodeFrame_status (hcode ▸ hframe)) ht
  · cases ht
    exact .idle (quiet_idle s)

/-- The rows of the table that are no management command. -/
theorem exec_event_moves {c : Instr} (hc : commandRule c = none) {s t : State} (ht : exec c s = .next t) : Moves s t := by
  have hrefl := Idle.refl s
  have hquiet := Moves.idle (quiet_idle s)
  cases c <;> cases hc
  case por => cases ht; exact .event hrefl .powerOn
  case rst => cases ht; exact .event hrefl .pinReset
  case linkReset p =>
    simp only [exec, execLinkReset] at ht
    split at ht
    · cases ht; exact hquiet
    · exact onEvent_event (setLinkReset_idle p true s) (fun _ => .linkReset p) ht
  case linkResetRelease p => cases ht; exact .idle ((setLinkReset_idle p false s).trans (quiet_idle _))
  case gateTick => exact onEvent_event hrefl (fun _ => .gateTick) ht
  case windowExpiry => exact onEvent_event hrefl (fun _ => .windowExpiry) ht
  case holdLimitExpiry p => exact onEvent_event hrefl (fun _ => .holdLimitExpiry p) ht
  case checkCompletion => exact onEvent_event hrefl (fun _ => .checkCompletion) ht
  case timeout => exact onEvent_event hrefl (fun _ => .timeout) ht
  case recoveryPulseEnd level =>
    simp only [exec, execRecoveryPulseEnd] at ht
    refine onEvent_moves hrefl (fun v hv => ?_) ht
    split
    · exact .event (hv.trans {}) .pulseEnd
    · exact .idle hv
  case memrdyAsserted => exact onEvent_event {} (fun _ => .memrdyRise) ht
  case readyWaitExpiry => exact onEvent_event hrefl (fun _ => .readyWaitExpiry) ht
  case resetStep => exact onEvent_event hrefl (fun _ => .resetStep) ht
  case syncEdge e => exact onEvent_event {} (fun _ => .syncEdge e) ht
  case requestArrival p r =>
    simp only [exec, execRequestArrival] at ht
    refine onEvent_moves hrefl (fun v hv => ?_) ht
    split
    · rename_i h
      obtain ⟨hready, hr⟩ := Bool.and_eq_true_iff.mp h
      exact .event hv (.arrival p r hready hr)
    · exact .idle hv
  case grant ready => exact onEvent_event hrefl (fun _ => .grant ready) ht
  case memoryResponse m => exact onEvent_event hrefl (fun _ => .memoryResponse m) ht
  case chipSelectFall =>
    simp only [exec, execChipSelectFall] at ht
    split at ht
    · cases ht; exact hquiet
    · exact onEvent_moves {} (fun v hv => .idle (hv.trans {})) ht
  case chipSelectRise edges =>
    simp only [exec, execChipSelectRise] at ht
    split at ht
    · exact onEvent_moves {} (fun v hv => .idle (hv.trans (riseSelect_idle edges v))) ht
    · cases ht; exact hquiet
  case badCrc frame crc =>
    simp only [exec, execBadCrc] at ht
    split at ht
    · exact frameStep_moves (fun v hv => .idle (hv.trans {})) ht
    · cases ht; exact hquiet
  case unknown code =>
    simp only [exec, execUnknown] at ht
    split at ht
    · exact frameStep_moves (fun v hv => .idle (hv.trans {})) ht
    · cases ht; exact hquiet
  case linkByte b => exact onEvent_moves hrefl (fun _ => takeByte_moves) ht
  case resetRelease =>
    simp only [exec, execResetRelease] at ht
    cases ht
    split <;> exact .idle {}

theorem exec_moves (c : Instr) {s t : State} (ht : exec c s = .next t) : Moves s t := by
  cases hc : commandRule c with
  | some rule => exact commandStep_moves hc (exec_of_commandRule hc s ▸ ht)
  | none => exact exec_event_moves hc ht

theorem clockCycle_moves {s t : State} (ht : clockCycle s = .next t) : Moves s t := by
  refine onEvent_moves (.refl s) (fun v hv => ?_) ht
  split
  · exact .event hv .due
  · rename_i h
    exact .event hv (.clock (Bool.not_eq_true _ ▸ h))

/-- What one step makes of the part, with or without a command waiting. -/
theorem step_moves {s t : State} (ht : step s = .next t) : Moves s t := by
  unfold step at ht
  split at ht
  · exact clockCycle_moves ht
  · rename_i c rest _
    exact (exec_moves c ht).after_idle {}

end Sys2Proof.Machine
end

section
/-! SUPPORT. The schedule law over every step: what each event leaves of the schedule controller, and the walk of the gate
through the windows of a plan that CHECK has passed. -/

namespace Sys2Proof.Machine

-- One proof at a time, as in the sections before.
set_option Elab.async false

/-! ### What the shared operations make of the schedule controller -/

/-- The schedule controller of a gate that does not walk and is not armed: nothing pending, every line low (R32, R44). -/
structure AtRest (c : Schedule) : Prop where
  gate : c.gate = .stopped ∨ c.gate = .faulted
  halt : c.pendingHalt = false
  arming : c.startOnSync = false
  openLines : c.openLines = 0
  frameLine : c.frameLine = false
  walkOwed : c.walkOwed = false

theorem stopSchedule_atRest (c : Schedule) : AtRest (stopSchedule c) := ⟨.inl rfl, rfl, rfl, rfl, rfl, rfl⟩

theorem faultSchedule_atRest (c : Schedule) : AtRest (faultSchedule c) := ⟨.inr rfl, rfl, rfl, rfl, rfl, rfl⟩

theorem initial_atRest : AtRest Schedule.initial := ⟨.inl rfl, rfl, rfl, rfl, rfl, rfl⟩

/-- The schedule controller is left as it is, or left at rest. -/
def KeepsOrRests (s t : State) : Prop := t.sched = s.sched ∨ AtRest t.sched

theorem KeepsOrRests.ite {c : Prop} [Decidable c] {s t u : State} (ht : KeepsOrRests s t) (hu : KeepsOrRests s u) :
    KeepsOrRests s (if c then t else u) := by
  split <;> assumption

/-- An event that keeps the schedule, before one that keeps it or leaves it at rest. -/
theorem KeepsOrRests.after {s t u : State} (ht : t.sched = s.sched) (h : KeepsOrRests t u) : KeepsOrRests s u :=
  h.imp_left (·.trans ht)

theorem foldl_sched {α : Type} {f : State → α → State} (h : ∀ s a, (f s a).sched = s.sched) (l : List α) (s : State) :
    (l.foldl f s).sched = s.sched := by
  induction l generalizing s with
  | nil => rfl
  | cons a l ih => rw [List.foldl_cons, ih, h]

@[simp] theorem clearQueue_sched (st : Status) (p : Port) (s : State) : (clearQueue st p s).sched = s.sched := by
  rw [clearQueue_eq]

@[simp] theorem enterStopped_sched (s : State) : (enterStopped s).sched = stopSchedule s.sched := by
  rw [enterStopped_eq]; rfl

@[simp] theorem enterFaulted_sched (s : State) : (enterFaulted s).sched = faultSchedule s.sched := by
  rw [enterFaulted, clearOnFault_eq]

@[simp] theorem planEntry_sched (s : State) : (planEntry s).sched = s.sched := by
  rw [planEntry_eq]; rfl

@[simp] theorem expireOne_sched (p : Port) (s : State) : (expireOne p s).sched = s.sched := by
  unfold expireOne
  split <;> rfl

@[simp] theorem expireAll_sched (s : State) : (expireAll s).sched = s.sched :=
  foldl_sched (fun t p => foldl_sched (fun u _ => expireOne_sched p u) _ t) _ s

theorem abandonPosted_sched (s : State) : (abandonPosted s).sched = s.sched := by
  exact foldl_sched (fun s e => loseEntry_sched _ e s) _ _

theorem abandonIssue_sched (s : State) (e : IssueEntry) : (abandonIssue s e).sched = s.sched := by
  unfold abandonIssue
  split <;> rfl

theorem abandonReset_sched (s : State) : (abandonReset s).sched = s.sched := by
  unfold abandonReset
  split <;> rfl

/-- A memory failure ends with the gate FAULTED (R40, R143). -/
@[simp] theorem memoryFailure_sched (why : FailureKind) (s : State) :
    (memoryFailure why s).sched = faultSchedule s.sched := by
  have hissued := foldl_sched abandonIssue_sched s.mem.issueList (abandonPosted { s with mem := { s.mem with state := .failed } })
  rw [abandonPosted_sched] at hissued
  rw [memoryFailure, abandonReset_sched, enterFaulted_sched, raise_sched, hissued]

theorem memoryFailure_rests (why : FailureKind) (s : State) : KeepsOrRests s (memoryFailure why s) :=
  .inr (memoryFailure_sched why s ▸ faultSchedule_atRest _)

theorem timeoutTest_rests (s : State) : KeepsOrRests s (timeoutTest s) := .ite (memoryFailure_rests _ s) (.inl rfl)

@[simp] theorem recoverySucceeds_sched (s : State) : (recoverySucceeds s).sched = stopSchedule s.sched := by
  rw [recoverySucceeds, enterStopped_sched, endRecovery_sched]

theorem recoverySucceeds_rests (s : State) : KeepsOrRests s (recoverySucceeds s) :=
  .inr (recoverySucceeds_sched s ▸ stopSchedule_atRest _)

theorem endPulse_rests (s : State) : KeepsOrRests s (endPulse s) :=
  .ite (.ite (.inr (recoverySucceeds_sched _ ▸ stopSchedule_atRest _)) (.inl rfl)) (.inl rfl)

theorem memrdyRises_rests (s : State) : KeepsOrRests s (memrdyRises s) := by
  unfold memrdyRises
  split
  · exact recoverySucceeds_rests s
  · exact .inl rfl
  · exact .inl rfl

@[simp] theorem expireReadyWait_sched (s : State) : (expireReadyWait s).sched = s.sched := by
  unfold expireReadyWait
  split <;> rfl

@[simp] theorem acceptRequest_sched (p : Port) (r : Request) (s : State) : (acceptRequest p r s).sched = s.sched := by
  have hplaced (posting : Bool) : (placeChecked p r posting s).sched = s.sched := by
    unfold placeChecked
    split <;> rfl
  have hunbroken : (acceptUnbroken p r s).sched = s.sched := by
    unfold acceptUnbroken
    split_ifs
    · split
      · rfl
      · rfl
      · exact hplaced _
    · rfl
  unfold acceptRequest
  split_ifs
  · rfl
  · split
    · rfl
    · exact hunbroken

@[simp] theorem decideGrant_sched (memReady : Bool) (s : State) : (decideGrant memReady s).sched = s.sched := by
  have hgrant (c : Contender) (t : IssueTag) : (grantTo c t s).sched = s.sched := by
    cases c <;> simp only [grantTo, grantPort, grantRetire] <;> split <;> rfl
  unfold decideGrant
  split_ifs
  · split
    · exact hgrant _ _
    · rfl
  · rfl

@[simp] theorem completeEntry_sched (e : IssueEntry) (m : MemResponse) (s : State) : (completeEntry e m s).sched = s.sched := by
  unfold completeEntry
  split
  · unfold completePort
    split_ifs <;> rfl
  · unfold completePosted
    split
    · rfl
    · dsimp only
      split_ifs <;> rfl

theorem takeResponse_rests (m : MemResponse) (s : State) : KeepsOrRests s (takeResponse m s) := by
  unfold takeResponse
  split
  · exact .inl rfl
  · exact .inl rfl
  · split
    · exact memoryFailure_rests _ s
    · rename_i e rest _
      have hdone : (completeEntry e m { s with mem := { s.mem with issueList := rest } }).sched = s.sched :=
        completeEntry_sched e m _
      exact .ite ((timeoutTest_rests _).after hdone) (memoryFailure_rests _ s)

@[simp] theorem tickReset_sched (s : State) : (tickReset s).sched = s.sched := by
  unfold tickReset
  split <;> rfl

/-- SET DEVICE can find an access over the new response limit (R141, R185). -/
theorem applyDevice_rests (d : Device) (s : State) : KeepsOrRests s (applyDevice d s) := by
  have hset : (setDevice d s).sched = s.sched := by
    unfold setDevice restartTick
    split <;> rfl
  have hcleared (c : Prop) [Decidable c] :
      (if c then clearQueue .closed .p0 (setDevice d s) else setDevice d s).sched = s.sched := by
    split <;> simp [hset]
  exact .ite (.inl (hcleared _)) ((timeoutTest_rests _).after (hcleared _))

@[simp] theorem takeReadFault_sched (port take : Byte) (s : State) : (takeReadFault port take s).1.sched = s.sched := by
  unfold takeReadFault
  split
  · dsimp only
    split <;> rfl
  · rfl

@[simp] theorem takeReadSync_sched (take : Byte) (s : State) : (takeReadSync take s).1.sched = s.sched := by
  unfold takeReadSync
  split <;> rfl

@[simp] theorem takeTakeEvents_sched (m : BitVec 16) (s : State) : (takeTakeEvents m s).1.sched = s.sched := by
  unfold takeTakeEvents
  split <;> rfl

@[simp] theorem takeSetAlerts_sched (m : BitVec 16) (s : State) : (takeSetAlerts m s).1.sched = s.sched := by
  unfold takeSetAlerts
  split <;> rfl

@[simp] theorem takeReadPlanItem_sched (n t i : Byte) (s : State) : (takeReadPlanItem n t i s).1.sched = s.sched := by
  unfold takeReadPlanItem
  split
  · rfl
  · split <;> rfl

@[simp] theorem takeSetSync_sched (m e : Byte) (l : BitVec 16) (s : State) : (takeSetSync m e l s).1.sched = s.sched := by
  unfold takeSetSync
  split
  · split_ifs <;> rfl
  · rfl

@[simp] theorem takeRecover_sched (s : State) : (takeRecover s).1.sched = s.sched := by
  unfold takeRecover
  split_ifs <;> rfl

theorem takeSetDevice_rests (d : Byte) (l : BitVec 16) (p b : Byte) (s : State) :
    KeepsOrRests s (takeSetDevice d l p b s).1 := by
  unfold takeSetDevice
  split
  · split_ifs
    · exact .inl rfl
    · exact .inl rfl
    · exact applyDevice_rests _ s
  · exact .inl rfl

/-! ### The gate under a plan that can be walked -/

/-- The counted windows of a plan, of which there is one at least, are all written: what CHECK asks of the walk (R19). -/
def Walkable (p : Plan) : Prop := 0 < p.windowCount ∧ ∀ i < p.windowCount, 0 < (windowAt p i).length

theorem walkable_of_finding {p : Plan} (h : finding p = none) : Walkable p := by
  unfold finding at h
  by_cases hcount : p.windowCount = 0
  · simp [hcount] at h
  rw [if_neg hcount] at h
  split at h
  · cases h
  · rename_i hset
    refine ⟨Nat.pos_of_ne_zero hcount, fun i hi => Nat.pos_of_ne_zero fun hlength => ?_⟩
    have hall := List.find?_eq_none.mp hset i (List.mem_range.mpr hi)
    simp [hlength] at hall

theorem activePlan_ne_none_iff (s : State) : activePlan s ≠ none ↔ ∃ n, (s.plans.get n).state = .active := by
  constructor
  · intro h
    obtain ⟨n, hn⟩ := Option.ne_none_iff_exists'.mp h
    exact ⟨n, activePlan_state hn⟩
  · rintro ⟨n, hn⟩
    unfold activePlan
    cases n <;> simp only [PerPlan.get] at hn
    · simp [hn]
    · split_ifs <;> simp

/-- The gate walks under a plan that can be walked, and so will be the plan of a pending swap; and there is an ACTIVE plan
when the gate is armed or walks (R33). -/
structure Governed (s : State) : Prop where
  store : PlanStore s
  walkable : ∀ n, (s.plans.get n).state = .active ∨ s.sched.pendingSwap = some n → Walkable (s.plans.get n)
  active : walking s = true ∨ s.sched.gate = .armed → activePlan s ≠ none

theorem PlanLaw.governed {s : State} (h : PlanLaw s) : Governed s := by
  obtain ⟨-, htarget, -, hsound, -, -, -, hactive⟩ := id h
  refine ⟨h.planStore, fun n hn => walkable_of_finding (hsound n ?_).1, hactive⟩
  exact hn.elim .inr fun hs => .inl (htarget n hs).1

/-- The plan that governs traffic can be walked. -/
theorem Governed.governing {s : State} (h : Governed s) (ha : activePlan s ≠ none) : Walkable (governing s) := by
  obtain ⟨n, hn⟩ := Option.ne_none_iff_exists'.mp ha
  have hplan : Machine.governing s = s.plans.get n := by simp [Machine.governing, hn]
  rw [hplan]
  exact h.walkable n (.inl (activePlan_state hn))

/-- An event that leaves the plans, when there is an ACTIVE plan for the gate after it. -/
theorem Governed.of_leaves {s t : State} (h : Governed s) (hl : LeavesPlans s t)
    (hactive : walking t = true ∨ t.sched.gate = .armed → activePlan s ≠ none) : Governed t where
  store := hl.planStore h.store
  walkable n hn := by
    rw [hl.plans] at hn ⊢
    refine h.walkable n (hn.imp_right fun hs => ?_)
    rcases hl.swap with hk | hk <;> rw [hk] at hs
    · exact hs
    · cases hs
  active ht := by
    have hplan : activePlan t = activePlan s := by simp [activePlan, hl.plans]
    rw [hplan]
    exact hactive ht

/-- Such an event that keeps the gate state. -/
theorem Governed.of_gate {s t : State} (h : Governed s) (hl : LeavesPlans s t) (hg : t.sched.gate = s.sched.gate) :
    Governed t :=
  h.of_leaves hl fun ht => h.active (by simpa [walking, hg] using ht)

theorem AtRest.not_active {s : State} (h : AtRest s.sched) : ¬(walking s = true ∨ s.sched.gate = .armed) := by
  rcases h.gate with hg | hg <;> simp [walking, hg]

/-- Such an event that leaves the gate at rest. -/
theorem Governed.of_rest {s t : State} (h : Governed s) (hl : LeavesPlans s t) (hr : AtRest t.sched) : Governed t :=
  h.of_leaves hl fun ht => absurd ht hr.not_active

/-! ### The schedule law -/

/-- The schedule law reads the schedule and the plan that governs. -/
theorem ScheduleLaw.of_same {s t : State} (h : ScheduleLaw s) (hs : t.sched = s.sched) (hp : governing t = governing s) :
    ScheduleLaw t := by
  unfold ScheduleLaw walking currentWindow at h ⊢
  rw [hs, hp]
  exact h

/-- It reads the schedule alone while the gate does not walk. -/
theorem ScheduleLaw.of_not_walking {s t : State} (h : ScheduleLaw s) (hs : t.sched = s.sched) (hw : walking s = false) :
    ScheduleLaw t := by
  obtain ⟨-, hlines, hhalt, harm⟩ := h
  have ht : walking t = false := by rw [← hw, walking, walking, hs]
  refine ⟨fun hwt => absurd hwt (by simp [ht]), fun _ => ?_, ?_, ?_⟩
  · rw [hs]; exact hlines hw
  · rw [hs]; exact hhalt
  · rw [hs]; exact harm

/-- A gate at rest keeps it whatever the plans are. -/
theorem ScheduleLaw.of_rest {t : State} (h : AtRest t.sched) : ScheduleLaw t := by
  refine ⟨fun hw => absurd (.inl hw) h.not_active, fun _ => ⟨h.openLines, h.frameLine, h.walkOwed⟩, ?_, ?_⟩
  · rcases h.gate with hg | hg <;> simp [hg, h.halt]
  · rcases h.gate with hg | hg <;> simp [hg, h.arming]

namespace ScheduleLaw

theorem halt_iff {s : State} (h : ScheduleLaw s) : s.sched.pendingHalt = true ↔ s.sched.gate = .halting := by
  obtain ⟨-, -, hhalt, -⟩ := h
  exact hhalt

theorem arming_iff {s : State} (h : ScheduleLaw s) : s.sched.startOnSync = true ↔ s.sched.gate = .armed := by
  obtain ⟨-, -, -, harm⟩ := h
  exact harm

/-- No halt is pending outside HALTING. -/
theorem no_halt {s : State} (h : ScheduleLaw s) (hg : s.sched.gate ≠ .halting) : s.sched.pendingHalt = false := by
  simpa [hg] using h.halt_iff

/-- A walking gate of the same state and pending items in a window, with the OPEN lines of the window (R44, R48). -/
theorem of_position {s t : State} (h : ScheduleLaw s) (hw : walking t = true) (hgate : t.sched.gate = s.sched.gate := by rfl)
    (hhalt : t.sched.pendingHalt = s.sched.pendingHalt := by rfl)
    (harm : t.sched.startOnSync = s.sched.startOnSync := by rfl)
    (hposition : t.sched.window < (governing t).windowCount ∧ t.sched.offset < (currentWindow t).length
      ∧ t.sched.openLines = (currentWindow t).openSet) : ScheduleLaw t :=
  ⟨fun _ => hposition, fun hn => absurd hw (by simp [hn]), by rw [hhalt, hgate]; exact h.halt_iff,
    by rw [harm, hgate]; exact h.arming_iff⟩

end ScheduleLaw

theorem governing_of_plans {s t : State} (h : t.plans = s.plans) : governing t = governing s := by
  simp [governing, activePlan, h]

theorem activePlan_of_iff {s t : State} (h : ∀ n, (t.plans.get n).state = .active ↔ (s.plans.get n).state = .active) :
    activePlan t = activePlan s := by
  have ha : t.plans.a.state = .active ↔ s.plans.a.state = .active := h .a
  have hb : t.plans.b.state = .active ↔ s.plans.b.state = .active := h .b
  simp only [activePlan, ha, hb]

/-- A plan that is not ACTIVE, rewritten to one that is not, does not govern. -/
theorem governing_mapPlan {n : PlanName} {f : Plan → Plan} {s : State} (hs : (s.plans.get n).state ≠ .active)
    (hf : (f (s.plans.get n)).state ≠ .active) :
    activePlan (mapPlan n f s) = activePlan s ∧ governing (mapPlan n f s) = governing s := by
  have hactive : activePlan (mapPlan n f s) = activePlan s := activePlan_of_iff fun m => by
    by_cases hmn : m = n
    · subst hmn
      simp [mapPlan, hs, hf]
    · simp [mapPlan, PerPlan.get_set, hmn]
  refine ⟨hactive, ?_⟩
  unfold governing
  rw [hactive]
  split
  · rename_i m hm
    have hmn : m ≠ n := by rintro rfl; exact hs (activePlan_state hm)
    simp [mapPlan, PerPlan.get_set, hmn]
  · rfl

/-- What a step is taken from, and what every event of the part keeps. -/
structure Scheduled (s : State) : Prop extends Governed s where
  law : ScheduleLaw s

namespace Scheduled

/-- An event that leaves the plans, and the schedule or a gate at rest. -/
theorem of_leaves {s t : State} (h : Scheduled s) (hl : LeavesPlans s t) (hs : KeepsOrRests s t) : Scheduled t := by
  rcases hs with hs | hr
  · exact ⟨h.of_gate hl (by rw [hs]), h.law.of_same hs (governing_of_plans hl.plans)⟩
  · exact ⟨h.of_rest hl hr, .of_rest hr⟩

/-- Both plans EDIT and the gate at rest: the state after a reset. -/
theorem of_edit {t : State} (hstore : PlanStore t) (hp : ∀ n, (t.plans.get n).state = .edit)
    (hs : t.sched.pendingSwap = none) (hr : AtRest t.sched) : Scheduled t where
  store := hstore
  walkable n hn := by simp [hp, hs] at hn
  active ht := absurd ht hr.not_active
  law := .of_rest hr

end Scheduled

/-- A walking gate at the start of window 0 with its OPEN lines, halts and arming as the gate state has them (R35, R46). -/
theorem scheduleLaw_of_first {t : State} (hplan : Walkable (governing t)) (hw : walking t = true)
    (hhalt : t.sched.pendingHalt = true ↔ t.sched.gate = .halting) (harm : t.sched.startOnSync = true ↔ t.sched.gate = .armed)
    (hwindow : t.sched.window = 0) (hoffset : t.sched.offset = 0)
    (hopen : t.sched.openLines = (windowAt (governing t) 0).openSet) : ScheduleLaw t := by
  refine ⟨fun _ => ?_, fun hn => absurd hw (by simp [hn]), hhalt, harm⟩
  rw [currentWindow, hwindow, hoffset]
  exact ⟨hplan.1, hplan.2 0 hplan.1, hopen⟩

namespace Scheduled

/-- The gate begins a frame at window 0 (R30 step 4, R35). -/
theorem beginFrame {s : State} (h : Governed s) (hw : walking s = true)
    (hhalt : s.sched.pendingHalt = true ↔ s.sched.gate = .halting) (harm : s.sched.startOnSync = true ↔ s.sched.gate = .armed)
    (hwindow : s.sched.window = 0) (hoffset : s.sched.offset = 0) : Scheduled (beginFrame s) where
  toGoverned := h.of_gate .same rfl
  law := scheduleLaw_of_first (h.governing (h.active (.inl hw))) hw hhalt harm hwindow hoffset rfl

/-- Entry to RUNNING with a plan ACTIVE and no halt pending (R35). -/
theorem enterRunning {s : State} (h : Governed s) (ha : activePlan s ≠ none) (hhalt : s.sched.pendingHalt = false) :
    Scheduled (enterRunning s) := by
  have hrunning : Governed { s with
      sched := { s.sched with gate := .running, startOnSync := false, frame := 0, window := 0, offset := 0, walkOwed := false } } :=
    h.of_leaves .same fun _ => ha
  exact (beginFrame hrunning rfl (by simp [hhalt]) (by simp) rfl rfl).of_leaves (planEntry_leaves _) (.inl (planEntry_sched _))

end Scheduled

/-! ### The frame boundary -/

theorem makeSwap_sched (s : State) : (makeSwap s).sched = { s.sched with pendingSwap := none } := by
  unfold makeSwap
  split
  · rename_i h
    rw [← h]
  · rw [raise_sched, planEntry_sched, activate_eq]
    rfl

/-- A READY plan that can be walked is made ACTIVE, with no swap pending (R23, R30 step 2). -/
theorem Governed.swappedTo {s : State} {n : PlanName} (h : Governed s) (hready : (s.plans.get n).state = .ready)
    (hplan : Walkable (s.plans.get n)) (hs : s.sched.pendingSwap = none) : Governed (swappedTo n s) where
  store := (swappedTo_drifts hready hs h.store).1
  walkable m hm := by
    rcases hm with hm | hm
    · rw [swappedTo_get] at hm ⊢
      split_ifs at hm ⊢ with hmn
      · exact hplan
      · contradiction
    · exact absurd (hs.symm.trans hm) (by simp)
  active _ := (activePlan_ne_none_iff _).mpr ⟨n, by rw [swappedTo_get, if_pos rfl]⟩

/-- Step 2 of a frame boundary (R30). -/
theorem Governed.makeSwap {s : State} (h : Governed s) : Governed (makeSwap s) := by
  unfold Machine.makeSwap
  split
  · exact h
  · rename_i n hn
    have hwithdrawn : Governed { s with sched := { s.sched with pendingSwap := none } } := h.of_gate ⟨rfl, rfl, .inr rfl⟩ rfl
    have hswapped := hwithdrawn.swappedTo (h.store.target n hn) (h.walkable n (.inr hn)) rfl
    have hraised (t : State) : LeavesPlans t (raise .swapDone t) := .same
    rw [activate_eq]
    exact hswapped.of_gate ((planEntry_leaves _).trans (hraised _)) (by rw [raise_sched, planEntry_sched])

namespace Scheduled

/-- A frame boundary: the gate stops, or begins a frame of the plan now ACTIVE (R30). -/
theorem frameBoundary {s : State} (h : Scheduled s) (hw : walking s = true) : Scheduled (frameBoundary s) := by
  have hnext : Governed (nextFrame s) := h.of_gate .same rfl
  have hswapped := hnext.makeSwap
  have hsched : (makeSwap (nextFrame s)).sched = { (nextFrame s).sched with pendingSwap := none } := makeSwap_sched _
  unfold Machine.frameBoundary
  dsimp only
  split
  · have hrest : AtRest (enterStopped (makeSwap (nextFrame s))).sched := enterStopped_sched _ ▸ stopSchedule_atRest _
    exact ⟨hswapped.of_rest (enterStopped_leaves _) hrest, .of_rest hrest⟩
  · have hwalking : walking (makeSwap (nextFrame s)) = true := by
      rw [walking, hsched]
      exact hw
    refine beginFrame hswapped hwalking ?_ ?_ ?_ ?_ <;> rw [hsched]
    · exact h.law.halt_iff
    · exact h.law.arming_iff
    · rfl
    · rfl

/-! ### The walk -/

/-- The next window, or the frame boundary after the last (R29). -/
theorem expireWindow {s : State} (h : Scheduled s) (hw : walking s = true) : Scheduled (expireWindow s) := by
  unfold Machine.expireWindow
  split
  · rename_i hnext
    have hplan := h.governing (h.active (.inl hw))
    exact ⟨h.of_gate .same rfl, h.law.of_position hw (hposition := ⟨hnext, hplan.2 _ hnext, rfl⟩)⟩
  · exact h.frameBoundary hw

/-- The walk's share of a gate tick (R29). -/
theorem takeWalkTick {s : State} (h : Scheduled s) : Scheduled (takeWalkTick s) := by
  obtain ⟨hposition, hlines, hhalt⟩ := h.law
  have hlow : Scheduled { s with sched := { s.sched with frameLine := false, walkOwed := false } } :=
    ⟨h.of_gate .same rfl, hposition, fun hn => ⟨(hlines hn).1, rfl, rfl⟩, hhalt⟩
  simp only [Machine.takeWalkTick]
  split
  · exact hlow
  · rename_i hstill
    have hw : walking s = true := by
      rw [Bool.not_eq_true', Bool.not_eq_false] at hstill
      exact hstill
    obtain ⟨hwindow, hoffset, hopen⟩ := hposition hw
    split
    · exact hlow.expireWindow hw
    · rename_i hdue
      have hne : s.sched.offset + 1 ≠ (currentWindow s).length := fun he => hdue <| by
        rw [expiryDue, Bool.and_eq_true_iff]
        exact ⟨hw, beq_iff_eq.mpr he⟩
      exact ⟨h.of_gate .same rfl, h.law.of_position hw (hposition := ⟨hwindow, lt_of_le_of_ne hoffset hne, hopen⟩)⟩

theorem takeOwedWalk {s : State} (h : Scheduled s) : Scheduled (takeOwedWalk s) := by
  unfold Machine.takeOwedWalk
  split
  · exact h.takeWalkTick
  · exact h

theorem tickWalk {s : State} (h : Scheduled s) : Scheduled (tickWalk s) := by
  unfold Machine.tickWalk
  split
  · rename_i hdue
    have hw : walking s = true := (Bool.and_eq_true_iff.mp hdue).1
    obtain ⟨hposition, -⟩ := h.law
    exact ⟨h.of_gate .same rfl, h.law.of_position hw (hposition := hposition hw)⟩
  · exact h.takeWalkTick

/-- A late rewind (R46). -/
theorem rewind {s : State} (h : Scheduled s) (hw : walking s = true) : Scheduled (rewind s) where
  toGoverned := h.of_gate .same rfl
  law := scheduleLaw_of_first (h.governing (h.active (.inl hw))) hw h.law.halt_iff h.law.arming_iff rfl rfl rfl

/-! ### Events that change the plans -/

/-- The plan that a check completes is not the one that governs, before or after (R21). -/
theorem completeCheck {s : State} (h : Scheduled s) : Scheduled (completeCheck s) := by
  obtain ⟨hstore, -⟩ := completeCheck_drifts s h.store
  unfold Machine.completeCheck at hstore ⊢
  split
  · rename_i n f d hc
    rw [hc] at hstore
    have hchecking : (s.plans.get n).state = .checking := h.store.checked n (by simp [hc])
    have hdone : (checkedPlan d f (s.plans.get n)).state ≠ .active := by
      simp only [checkedPlan]
      split <;> simp
    obtain ⟨hactive, hgoverning⟩ := governing_mapPlan (f := checkedPlan d f) (s := { s with check := none }) (n := n)
      (by simp [hchecking]) hdone
    refine ⟨⟨hstore, fun m hm => ?_, fun ht => ?_⟩, h.law.of_same rfl hgoverning⟩
    · have hmn : m ≠ n := by
        rintro rfl
        rcases hm with hm | hm
        · exact hdone (by simpa [mapPlan] using hm)
        · exact absurd (h.store.target m hm) (by simp [hchecking])
      have hkept : ((mapPlan n (checkedPlan d f) { s with check := none }).plans.get m) = s.plans.get m := by
        simp [mapPlan, PerPlan.get_set, hmn]
      rw [raise_plans, hkept] at hm ⊢
      exact h.walkable m hm
    · exact hactive ▸ h.active ht
  · exact h

/-- The reset step leaves the gate at rest and both plans EDIT (R190). -/
theorem takeResetStep {s : State} (h : Scheduled s) : Scheduled (takeResetStep s) := by
  obtain ⟨hstore, -⟩ := takeResetStep_drifts s h.store
  unfold Machine.takeResetStep at hstore ⊢
  split
  · rename_i hdue
    rw [if_pos hdue] at hstore
    exact of_edit hstore (plansAfterReset_get s.plans) rfl initial_atRest
  · exact h

theorem takeDue {s : State} (h : Scheduled s) : Scheduled (takeDue s) := by
  have hexpired := h.takeOwedWalk.of_leaves (expireAll_leaves _) (.inl (expireAll_sched _))
  have hfailed := hexpired.completeCheck.of_leaves (timeoutTest_leaves _) (timeoutTest_rests _)
  have hpulse := hfailed.of_leaves (endPulse_leaves _) (endPulse_rests _)
  exact (hpulse.of_leaves (expireReadyWait_leaves _) (.inl (expireReadyWait_sched _))).takeResetStep

theorem gateTick {s : State} (h : Scheduled s) : Scheduled (gateTick s) := by
  have hcounted (t : State) (ht : Scheduled t) : Scheduled { t with ticked := 0 } := ht.of_leaves .same (.inl rfl)
  have hmemory (t : State) (ht : Scheduled t) : Scheduled (tickMemory (tickDeadlines t)) := ht.of_leaves .same (.inl rfl)
  exact ((hmemory _ (hcounted _ h.takeDue).tickWalk).of_leaves (tickCheck_leaves _) (.inl (tickCheck_sched _))).of_leaves (tickReset_leaves _)
    (.inl (tickReset_sched _))

theorem countCycle {s : State} (h : Scheduled s) : Scheduled (countCycle s) := by
  unfold Machine.countCycle
  split
  · exact h.of_leaves .same (.inl rfl)
  · exact h.gateTick.takeDue

end Scheduled

/-! ### SYNC edges -/

theorem alignOutcome_ne_started (t l c : Nat) : alignOutcome t l c ≠ .started := by
  simp only [alignOutcome]
  split_ifs <;> simp

/-- An edge starts an armed gate and no other (R34, Table 9-1). -/
theorem edgeOutcome_started {s : State} (h : edgeOutcome s = .started) : s.sched.gate = .armed := by
  unfold edgeOutcome at h
  split at h
  case h_3 hg => exact hg
  case h_1 => cases h
  case h_2 => cases h
  all_goals
    split at h
    · exact absurd h (alignOutcome_ne_started _ _ _)
    · cases h
    · cases h

/-- An edge cuts or rewinds a gate that walks (R157, Table 9-1). -/
theorem walking_of_edgeOutcome {s : State} (h : edgeOutcome s = .earlyCut ∨ edgeOutcome s = .lateRewind) :
    walking s = true := by
  unfold edgeOutcome at h
  cases hg : s.sched.gate <;> simp [hg, walking] at h ⊢

namespace Scheduled

theorem seenEdge {s : State} (h : Scheduled s) (e : SyncEdge) : Scheduled (seenEdge e s) := by
  have hcaptured : Scheduled (raise .syncCaptured { s with sync := { s.sync with capture := captureOf s } }) :=
    h.of_leaves .same (.inl rfl)
  unfold Machine.seenEdge
  split
  · unfold selectedEdge actOnOutcome
    split
    · rename_i ho
      have harmed := edgeOutcome_started ho
      exact enterRunning hcaptured.toGoverned (h.active (.inr harmed)) (h.law.no_halt (by simp [harmed]))
    · rename_i ho
      exact hcaptured.frameBoundary (walking_of_edgeOutcome (.inl ho))
    · rename_i ho
      exact hcaptured.rewind (walking_of_edgeOutcome (.inr ho))
    · exact hcaptured.of_leaves .same (.inl rfl)
    · exact hcaptured
    · exact hcaptured
    · exact hcaptured
  · exact h

/-! ### Every event of the part -/

theorem event {s t : State} (h : Scheduled s) (he : PartEvent s t) : Scheduled t := by
  cases he with
  | powerOn =>
    have hedit (n : PlanName) : ((resetWith State.reset.plans s).plans.get n).state = .edit := by cases n <;> rfl
    exact of_edit (drifts_of_edit (s := s) hedit rfl rfl h.store).1 hedit rfl initial_atRest
  | pinReset =>
    have hedit (n : PlanName) : ((resetWith (plansAfterReset s.plans) s).plans.get n).state = .edit :=
      plansAfterReset_get s.plans n
    exact of_edit (drifts_of_edit (s := s) hedit rfl rfl h.store).1 hedit rfl initial_atRest
  | linkReset p => exact h.of_leaves .same (.inl rfl)
  | gateTick => exact h.gateTick
  | windowExpiry => exact h.takeOwedWalk
  | holdLimitExpiry p => exact h.of_leaves (expireOne_leaves p s) (.inl (expireOne_sched p s))
  | checkCompletion => exact h.completeCheck
  | timeout => exact h.of_leaves (timeoutTest_leaves s) (timeoutTest_rests s)
  | pulseEnd => exact h.of_leaves (endPulse_leaves s) (endPulse_rests s)
  | memrdyRise => exact h.of_leaves (memrdyRises_leaves s) (memrdyRises_rests s)
  | readyWaitExpiry => exact h.of_leaves (expireReadyWait_leaves s) (.inl (expireReadyWait_sched s))
  | resetStep => exact h.takeResetStep
  | syncEdge e => exact h.seenEdge e
  | arrival p r => exact h.of_leaves (acceptRequest_leaves p r s) (.inl (acceptRequest_sched p r s))
  | grant memReady => exact h.of_leaves (decideGrant_leaves memReady s) (.inl (decideGrant_sched memReady s))
  | memoryResponse m => exact h.of_leaves (takeResponse_leaves m s) (takeResponse_rests m s)
  | due => exact h.takeDue
  | clock => exact h.countCycle

theorem idle {s t : State} (h : Scheduled s) (hi : Idle s t) : Scheduled t := h.of_leaves hi.leavesPlans (.inl hi.sched)

/-! ### The management commands -/

theorem planWrite {s : State} (h : Scheduled s) (plan : Byte) (change : Option (Plan → Plan)) :
    ScheduleLaw (planWrite plan change s).1 := by
  unfold Machine.planWrite
  split
  · exact h.law
  · rename_i n _
    split
    · exact h.law
    · exact h.law
    · rename_i f hw
      have hn : (s.plans.get n).state ≠ .active := by
        rcases writable_of_writeRefusal hw with he | ⟨hr, -⟩
        · simp [he]
        · simp [hr]
      exact h.law.of_same rfl (governing_mapPlan hn (by simp [toEdit])).2

theorem takeCopyPlan {s : State} (h : Scheduled s) : ScheduleLaw (takeCopyPlan s).1 := by
  simp only [Machine.takeCopyPlan]
  split
  · exact h.law
  · rename_i n hn
    split_ifs
    · exact h.law
    · exact h.law
    · exact h.law.of_same rfl (governing_mapPlan (h.store.other_not_active (activePlan_state hn)) (by simp [toEdit])).2

theorem takeCheckPlan {s : State} (h : Scheduled s) (plan : Byte) : ScheduleLaw (takeCheckPlan plan s).1 := by
  simp only [Machine.takeCheckPlan]
  split
  · exact h.law
  · split_ifs with hbusy hactive hswap
    · exact h.law
    · exact h.law
    · exact h.law
    · refine h.law.of_same rfl (And.right (governing_mapPlan ?_ ?_))
      · exact hactive
      · simp

/-- REQUEST SWAP changes the plan that governs in STOPPED alone (R23, R38). -/
theorem takeRequestSwap {s : State} (h : Scheduled s) (plan : Byte) : ScheduleLaw (takeRequestSwap plan s).1 := by
  unfold Machine.takeRequestSwap
  split
  · exact h.law
  · rename_i n _
    split
    · rename_i hg
      unfold swapStopped
      split_ifs
      · rw [activate_eq]
        exact h.law.of_not_walking rfl (by simp [walking, hg])
      · exact h.law
    · unfold swapRunning
      split_ifs <;> exact h.law
    · exact h.law
    · exact h.law
    · exact h.law

theorem takeStart {s : State} (h : Scheduled s) (mode : Byte) : ScheduleLaw (takeStart mode s).1 := by
  unfold Machine.takeStart
  split_ifs with hmode hg hplan
  · exact h.law
  · exact h.law
  · exact h.law
  · exact (enterRunning h.toGoverned hplan (h.law.no_halt (by simp [not_not.mp hg]))).law
  · exact h.law
  · obtain ⟨-, hlines, hhalt, -⟩ := h.law
    have hstopped := not_not.mp hg
    refine ⟨fun hw => absurd hw (by simp [walking]), fun _ => hlines (by simp [walking, hstopped]), ?_, by simp⟩
    simp [hhalt, hstopped]

theorem takeHalt {s : State} (h : Scheduled s) : ScheduleLaw (takeHalt s).1 := by
  unfold Machine.takeHalt
  split
  · rename_i hg
    obtain ⟨hposition, -, -, harm⟩ := h.law
    refine ⟨fun _ => hposition (by simp [walking, hg]), fun hn => absurd hn (by simp [walking]), by simp, ?_⟩
    simp [harm, hg]
  · exact h.law
  · exact .of_rest (enterStopped_sched s ▸ stopSchedule_atRest _)
  · exact h.law
  · exact h.law

theorem takeHaltNow {s : State} (h : Scheduled s) : ScheduleLaw (takeHaltNow s).1 := by
  have hstop : ScheduleLaw (enterStopped (withdrawPending s)) := .of_rest (enterStopped_sched _ ▸ stopSchedule_atRest _)
  unfold Machine.takeHaltNow
  split
  · exact hstop
  · exact hstop
  · exact hstop
  · exact h.law
  · exact h.law

theorem takeResetGate {s : State} (h : Scheduled s) : ScheduleLaw (takeResetGate s).1 := by
  have hbegin (t : State) : (beginReset t).sched = t.sched := clearQueue_sched _ _ _
  unfold Machine.takeResetGate
  split
  · exact h.law
  · exact h.law
  · exact h.law
  · exact .of_rest (by rw [hbegin, enterStopped_sched]; exact stopSchedule_atRest _)
  · exact (h.of_leaves (beginReset_leaves s) (.inl (hbegin s))).law

/-- Every management command's rule keeps the schedule law. -/
theorem commandRule {c : Instr} {rule : State → State × Reply} (hc : commandRule c = some rule) {s : State} (h : Scheduled s) :
    ScheduleLaw (rule s).1 := by
  have leaves {t : State} (hl : LeavesPlans s t) (hs : KeepsOrRests s t) : ScheduleLaw t := (h.of_leaves hl hs).law
  cases c <;> cases hc
  case status => exact h.law
  case takeEvents m => exact leaves (takeTakeEvents_leaves m s) (.inl (takeTakeEvents_sched m s))
  case readFault p t => exact leaves (takeReadFault_leaves p t s) (.inl (takeReadFault_sched p t s))
  case readSync t => exact leaves (takeReadSync_leaves t s) (.inl (takeReadSync_sched t s))
  case readRecoveryReport => exact h.law
  case setAlerts m => exact leaves (takeSetAlerts_leaves m s) (.inl (takeSetAlerts_sched m s))
  case setDevice d l p b => exact leaves (takeSetDevice_leaves d l p b s) (takeSetDevice_rests d l p b s)
  case setSync m e l => exact leaves (takeSetSync_leaves m e l s) (.inl (takeSetSync_sched m e l s))
  case writeWindow => exact h.planWrite _ _
  case setWindowCount => exact h.planWrite _ _
  case writeRegion => exact h.planWrite _ _
  case setRegionCount => exact h.planWrite _ _
  case writePortSettings => exact h.planWrite _ _
  case writeCosts => exact h.planWrite _ _
  case readPlanItem n t i => exact leaves (takeReadPlanItem_leaves n t i s) (.inl (takeReadPlanItem_sched n t i s))
  case copyPlan => exact h.takeCopyPlan
  case checkPlan n => exact h.takeCheckPlan n
  case requestSwap n => exact h.takeRequestSwap n
  case withdrawSwap => exact h.law
  case start m => exact h.takeStart m
  case halt => exact h.takeHalt
  case haltNow => exact h.takeHaltNow
  case recover => exact leaves (takeRecover_leaves s) (.inl (takeRecover_sched s))
  case resetGate => exact h.takeResetGate

end Scheduled

theorem ScheduleLaw.of_idle {s t : State} (h : ScheduleLaw s) (hi : Idle s t) : ScheduleLaw t :=
  h.of_same hi.sched (governing_of_plans hi.plans)

/-- Settles O17: what a step makes of the part, case by case, from a state that `PlanLaw` has governed. -/
theorem stepKeepsTheScheduleLaw : Obligations.StepKeepsTheScheduleLaw := by
  intro s t _ hplan hlaw ht
  have h : Scheduled s := ⟨hplan.governed, hlaw⟩
  cases step_moves ht with
  | idle hi => exact hlaw.of_idle hi
  | event before he => exact ((h.idle before).event he).law
  | command hc before _ after => exact ((h.idle before).commandRule hc).of_idle after

end Sys2Proof.Machine
end

section
/-! SUPPORT. R52 and the bus rules of R56 at the arrival of a request: when a port takes it, and what it answers before the
region checker sees it. -/

namespace Sys2Proof.Machine

-- One proof at a time, as in the sections before.
set_option Elab.async false

/-! ### Readiness -/

/-- The gate state admits a port: all but P1 to P3 in STOPPED and ARMED, and P0 there without boot pass (Table 3-4). -/
theorem admitted_iff (s : State) (p : Port) : admitted s p = true ↔ s.sched.gate = .running ∨ s.sched.gate = .halting
    ∨ s.sched.gate = .faulted ∨ (p = .p0 ∧ s.device.bootPass = true) := by
  unfold admitted
  cases s.sched.gate <;> simp

/-- Out of reset the model's readiness is that of R52. -/
theorem portReady_iff {s : State} (hout : s.inReset = false) (p : Port) : portReady s p = true ↔ Ready s p := by
  simp only [portReady, Ready, admitted_iff, hout, Bool.not_false, Bool.and_eq_true, Bool.not_eq_true', decide_eq_true_eq,
    true_and, and_assoc]
  rfl

section
variable {p : Port} {r : Request} {s : State}

theorem exec_requestArrival_taken (hout : s.inReset = false) (hr : r.wellFormed = true) (hready : Ready s p) :
    exec (.requestArrival p r) s = .next (acceptRequest p r (quiet s)) := by
  have htaken : (portReady (quiet s) p && r.wellFormed) = true := by simp [(portReady_iff (s := quiet s) hout p).mpr hready, hr]
  simp only [exec, execRequestArrival, onEvent_of_running hout, if_pos htaken]

theorem exec_requestArrival_left (hout : s.inReset = false) (hready : ¬ Ready s p) :
    exec (.requestArrival p r) s = .next (quiet s) := by
  have hleft : portReady (quiet s) p = false :=
    Bool.eq_false_iff.mpr fun h => hready ((portReady_iff (s := quiet s) hout p).mp h)
  simp [exec, execRequestArrival, onEvent_of_running hout, hleft]

/-! ### The bus rules -/

theorem crossesPage_iff (a : Addr) (beats : Nat) : crossesPage a beats = true ↔ 4096 < a.toNat % 4096 + beats * 8 :=
  decide_eq_true_iff

theorem protocolFault_misaligned (ha : r.addr.toNat % 8 ≠ 0) : protocolFault s p r = some .misaligned := if_pos ha

theorem protocolFault_boundary (ha : r.addr.toNat % 8 = 0) (hpage : 4096 < r.addr.toNat % 4096 + r.beats * 8) :
    protocolFault s p r = some .boundary := by
  rw [← crossesPage_iff] at hpage
  simp [protocolFault, Config.beatBytes, ha, hpage]

theorem protocolFault_of_span (ha : r.addr.toNat % 8 = 0) (hpage : r.addr.toNat % 4096 + r.beats * 8 ≤ 4096) :
    protocolFault s p r = if r.tag ∈ (s.ports.get p).tags then some .tagInUse else none := by
  rw [← not_lt, ← crossesPage_iff] at hpage
  simp [protocolFault, Config.beatBytes, ha, hpage]

/-- A request that breaks no bus rule has a tag that is not outstanding (R56). -/
theorem tag_unused_of_protocolFault (h : protocolFault s p r = none) : r.tag ∉ (s.ports.get p).tags := by
  unfold protocolFault at h
  split_ifs at h with _ _ hused
  simpa using hused

theorem acceptRequest_faulted (hg : s.sched.gate = .faulted) :
    acceptRequest p r s = give p ⟨r.tag, .memFault, false, none⟩ s := if_pos hg

theorem acceptRequest_broken {reason : FaultReason} (hg : s.sched.gate ≠ .faulted)
    (hbroken : protocolFault s p r = some reason) : acceptRequest p r s = rejectArrival p r .protocol reason s := by
  simp [acceptRequest, hg, hbroken]

theorem acceptRequest_unbroken (hg : s.sched.gate ≠ .faulted) (hbroken : protocolFault s p r = none) :
    acceptRequest p r s = acceptUnbroken p r s := by
  simp [acceptRequest, hg, hbroken]

/-! ### The answers -/

/-- The only response of an event is the one given. -/
theorem give_quiet (x : Response) (s : State) :
    give p x (quiet s) = { s with out := { Outputs.none with responses := Outputs.none.responses.set p [x] } } := by
  simp [give, quiet, Outputs.none]

/-- A request refused at its arrival is answered and handed as a fault, and that is all (R56, R75). -/
theorem rejectArrival_quiet (status : Status) (reason : FaultReason) :
    rejectArrival p r status reason (quiet s) = { s with
      events := faultsTaken (faultsOf p [faultNow s reason r.tag r.kind r.addr r.beats]) s.events
      out := { Outputs.none with responses := Outputs.none.responses.set p [refusalTo status r.tag] } } := by
  rw [rejectArrival, give_quiet, handFault_eq_faultsTaken]
  rfl

end

/-- Settles O42: the acceptance sequence up to the bus rules, rule by rule. -/
theorem arrivalRefusedByTheBus : Obligations.ArrivalRefusedByTheBus := by
  intro p r s hout hr refused broken
  have hbroken {reason : FaultReason} (hready : Ready s p) (hg : s.sched.gate ≠ .faulted)
      (hrule : protocolFault (quiet s) p r = some reason) : exec (.requestArrival p r) s = broken reason := by
    rw [exec_requestArrival_taken hout hr hready, acceptRequest_broken (s := quiet s) hg hrule, rejectArrival_quiet]
  refine ⟨exec_requestArrival_left hout, fun hready hg => ?_, fun hready hg ha => ?_, fun hready hg ha hpage => ?_,
    fun hready hg ha hpage htag => ?_⟩
  · rw [exec_requestArrival_taken hout hr hready, acceptRequest_faulted (s := quiet s) hg, give_quiet]
    rfl
  · exact hbroken hready hg (protocolFault_misaligned ha)
  · exact hbroken hready hg (protocolFault_boundary ha hpage)
  · exact hbroken hready hg ((protocolFault_of_span ha hpage).trans (if_pos htag))

end Sys2Proof.Machine
end

section
/-! SUPPORT. R63 over every step: what an event answers leaves the outstanding tags and the held and issued requests
together, and only an arrival adds to either. -/

namespace Sys2Proof.Machine

-- One proof at a time, as in the sections before.
set_option Elab.async false

/-! ### The tags of a port's requests -/

/-- The tag of an issue-list entry that the port is still owed a response for. -/
def owedTag (p : Port) (e : IssueEntry) : Option Tag := (owedTo e).bind fun x => if x.1 = p then some x.2 else none

theorem owedTag_port {e : IssueEntry} {q : Port} {t : Tag} (h : e.source = .port q t) (p : Port) :
    owedTag p e = if q = p ∧ e.orphan = false then some t else none := by
  cases ho : e.orphan <;> simp [owedTag, owedTo, h, ho]

theorem owedTag_posted {e : IssueEntry} (h : e.source = .posted) (p : Port) : owedTag p e = none := by
  simp [owedTag, owedTo, h]

theorem issuedTags_eq (s : State) (p : Port) : issuedTags s p = s.mem.issueList.filterMap (owedTag p) := by
  unfold issuedTags
  congr 1
  funext e
  cases h : e.source with
  | port q t => rw [owedTag_port h]
  | posted => rw [owedTag_posted h]

theorem issuedTags_of_list {s t : State} (h : t.mem.issueList = s.mem.issueList) (p : Port) : issuedTags t p = issuedTags s p := by
  rw [issuedTags_eq, issuedTags_eq, h]

/-- The tags of a port's requests that wait for an answer: the held ones, then the issued ones. -/
def openTags (s : State) (p : Port) : List Tag := heldTags s p ++ issuedTags s p

theorem tagsWithout_tagsWithout (l a b : List Tag) : tagsWithout (tagsWithout l a) b = tagsWithout l (a ++ b) := by
  simp [tagsWithout, List.filter_filter, Bool.and_comm]

theorem tagsWithout_singleton (l : List Tag) (t : Tag) : tagsWithout l [t] = l.filter (· != t) := by
  rw [← tagsWithout_cons, tagsWithout_nil]

/-- Tags that leave a set they belong to leave the rest. -/
theorem perm_tagsWithout {l gone rest : List Tag} (hl : l.Nodup) (h : (gone ++ rest).Perm l) : rest.Perm (tagsWithout l gone) := by
  have hnodup : (gone ++ rest).Nodup := h.nodup_iff.mpr hl
  have hdisjoint := List.disjoint_of_nodup_append hnodup
  have hgone : gone.filter (fun t => !gone.contains t) = [] := by simp
  have hrest : rest.filter (fun t => !gone.contains t) = rest :=
    List.filter_eq_self.mpr fun t ht => by simpa using fun hg => hdisjoint hg ht
  have hfilter := h.filter (fun t => !gone.contains t)
  rwa [List.filter_append, hgone, hrest] at hfilter

/-! ### Events that answer requests and add none -/

/-- Of each port some requests, perhaps none, have been answered: their tags have left the port's set, and the requests
its queue or the issue list (R60, R61). Nothing has joined either. -/
def Closes (s t : State) : Prop := ∀ p, ∃ gone, (t.ports.get p).tags = tagsWithout (s.ports.get p).tags gone
  ∧ (openTags s p).Perm (gone ++ openTags t p)

theorem Closes.tagLaw {s t : State} (h : Closes s t) (hs : TagLaw s) : TagLaw t := by
  intro p
  obtain ⟨gone, htags, hopen⟩ := h p
  obtain ⟨hnodup, hperm⟩ := hs p
  rw [htags]
  exact ⟨hnodup.filter _, perm_tagsWithout hnodup (hopen.symm.trans hperm)⟩

namespace Closes

/-- Nothing answered: the requests are those they were, in whatever place they stand. -/
theorem kept {s t : State} (htags : ∀ p, (t.ports.get p).tags = (s.ports.get p).tags)
    (hopen : ∀ p, (openTags s p).Perm (openTags t p)) : Closes s t := fun p =>
  ⟨[], by rw [htags, tagsWithout_nil], hopen p⟩

/-- An update that does not name the ports or the issue list. -/
theorem same {s t : State} (hports : t.ports = s.ports := by rfl) (hlist : t.mem.issueList = s.mem.issueList := by rfl) :
    Closes s t :=
  .kept (fun p => by rw [hports]) fun p => by rw [openTags, openTags, heldTags, heldTags, hports, issuedTags_of_list hlist]

theorem refl (s : State) : Closes s s := same

theorem trans {s t u : State} (h : Closes s t) (h' : Closes t u) : Closes s u := by
  intro p
  obtain ⟨gone, htags, hopen⟩ := h p
  obtain ⟨gone', htags', hopen'⟩ := h' p
  refine ⟨gone ++ gone', by rw [htags', htags, tagsWithout_tagsWithout], ?_⟩
  rw [List.append_assoc]
  exact hopen.trans (hopen'.append_left gone)

/-- Such an update before an event that closes. -/
theorem after_same {s t u : State} (h : Closes t u) (hports : t.ports = s.ports := by rfl)
    (hlist : t.mem.issueList = s.mem.issueList := by rfl) : Closes s u := (same hports hlist).trans h

theorem foldl {α : Type} {f : State → α → State} (h : ∀ a s, Closes s (f s a)) (l : List α) (s : State) :
    Closes s (l.foldl f s) := by
  induction l generalizing s with
  | nil => exact refl s
  | cons a l ih => exact (h a s).trans (ih (f s a))

theorem ite {c : Prop} [Decidable c] {s t u : State} (ht : Closes s t) (hu : Closes s u) : Closes s (if c then t else u) := by
  split <;> assumption

/-- An event of one port: the tags it answers, and what is left of the port and of its issued requests. -/
theorem of_port {s t : State} {p : Port} {u : PortUnit} (gone : List Tag) (hports : t.ports = s.ports.set p u)
    (htags : u.tags = tagsWithout (s.ports.get p).tags gone)
    (hopen : (openTags s p).Perm (gone ++ (u.queue.map (·.tag) ++ issuedTags t p)))
    (hother : ∀ q ≠ p, issuedTags t q = issuedTags s q) : Closes s t := by
  intro q
  by_cases hq : q = p
  · subst hq
    have hunit : t.ports.get q = u := by rw [hports, PerPort.get_set_same]
    rw [← hunit] at htags hopen
    exact ⟨gone, htags, hopen⟩
  · have hunit : t.ports.get q = s.ports.get q := by rw [hports, PerPort.get_set_other _ _ hq]
    refine ⟨[], by rw [hunit, tagsWithout_nil], ?_⟩
    rw [openTags, openTags, heldTags, heldTags, hunit, hother q hq]
    exact .refl _

/-- The oldest entry of the issue list leaves it, and the port it is owed to is answered (R60, R132, R143). -/
theorem of_oldest {s t : State} {e : IssueEntry} {rest : List IssueEntry} {p : Port} {tag : Tag}
    (hlist : s.mem.issueList = e :: rest) (howed : owedTo e = some (p, tag)) (hrest : t.mem.issueList = rest)
    (hports : t.ports = s.ports.set p { s.ports.get p with tags := (s.ports.get p).tags.filter (· != tag) }) :
    Closes s t := by
  refine of_port [tag] hports (tagsWithout_singleton _ _).symm ?_ fun q hq => ?_
  · have hissued : issuedTags s p = tag :: issuedTags t p := by simp [issuedTags_eq, hlist, hrest, owedTag, howed]
    rw [openTags, hissued]
    exact List.perm_middle
  · simp [issuedTags_eq, hlist, hrest, owedTag, howed, Ne.symm hq]

/-- The oldest entry of the issue list leaves it with nothing owed: an orphan, or a posted write (R133, R134). -/
theorem of_unowed {s t : State} {e : IssueEntry} {rest : List IssueEntry} (hlist : s.mem.issueList = e :: rest)
    (howed : owedTo e = none) (hrest : t.mem.issueList = rest) (hports : t.ports = s.ports) : Closes s t := by
  refine .kept (fun p => by rw [hports]) fun p => ?_
  rw [openTags, openTags, heldTags, heldTags, hports, issuedTags_eq, issuedTags_eq, hlist, hrest,
    List.filterMap_cons_none (by simp [owedTag, howed])]

end Closes

theorem Idle.closes {s t : State} (h : Idle s t) : Closes s t :=
  .kept h.tags fun p => by
    have hlist : t.mem.issueList = s.mem.issueList := by rw [← h.mem]
    rw [openTags, openTags, heldTags, heldTags, h.queue, issuedTags_of_list hlist]

/-! ### The hold queues -/

theorem clearQueue_closes (st : Status) (p : Port) (s : State) : Closes s (clearQueue st p s) := by
  rw [clearQueue_eq]
  exact .of_port (heldTags s p) rfl rfl (.refl _) fun _ _ => rfl

theorem enterStopped_closes (s : State) : Closes s (enterStopped s) := by
  have hcleared (t : State) : Closes t (clearOnStop t) := by
    have hp123 := ((clearQueue_closes .closed .p1 t).trans (clearQueue_closes .closed .p2 _)).trans
      (clearQueue_closes .closed .p3 _)
    exact .ite hp123 (hp123.trans (clearQueue_closes .closed .p0 _))
  exact (hcleared _).after_same

theorem enterFaulted_closes (s : State) : Closes s (enterFaulted s) :=
  (Closes.foldl (f := fun t p => clearQueue .memFault p t) (fun p t => clearQueue_closes .memFault p t) allPorts _).after_same

/-- The element that a search finds is the one that an erasure takes. -/
theorem perm_cons_eraseP {α : Type} {f : α → Bool} {l : List α} {a : α} (h : l.find? f = some a) :
    l.Perm (a :: l.eraseP f) := by
  obtain ⟨ha, before, after, hl, hbefore⟩ := List.find?_eq_some_iff_append.mp h
  rw [hl, List.eraseP_append_right _ (by simpa using hbefore), List.eraseP_cons_of_pos ha]
  exact List.perm_middle

/-- A request whose deadline is over leaves its queue from wherever it stands (R84). -/
theorem expireOne_closes (p : Port) (s : State) : Closes s (expireOne p s) := by
  unfold expireOne
  split
  · exact .refl s
  · rename_i h hfind
    refine .of_port [h.tag] (u := { s.ports.get p with
      queue := (s.ports.get p).queue.eraseP expired
      tags := (s.ports.get p).tags.filter (· != h.tag) }) ?_ (tagsWithout_singleton _ _).symm ?_ fun _ _ => rfl
    · simp [answer, mapPort, PerPort.set_set]
    · exact ((perm_cons_eraseP hfind).map (·.tag)).append_right _

theorem expireAll_closes (s : State) : Closes s (expireAll s) :=
  .foldl (fun p t => .foldl (fun _ => expireOne_closes p) _ t) _ s

/-- Plan entry divides the requests of a queue into those it refuses and those it keeps (R88). -/
theorem refused_append_kept_perm {α : Type} (f : Held → Option α) (l : List Held) :
    (l.map (·.tag)).Perm ((l.filterMap fun h => (f h).map fun x => (h, x)).map (·.1.tag)
      ++ (l.filter fun h => (f h).isNone).map (·.tag)) := by
  induction l with
  | nil => exact .refl _
  | cons h l ih =>
    cases hf : f h with
    | none => simpa [hf] using (ih.cons h.tag).trans List.perm_middle.symm
    | some x => simpa [hf] using ih

theorem planEntry_closes (s : State) : Closes s (planEntry s) := by
  rw [planEntry_eq]
  intro p
  have hkept : heldTags (enteredFrom s) p =
      ((s.ports.get p).queue.filter fun h => (entryRefusal s p h).isNone).map (·.tag) := by
    simp [heldTags, enteredFrom, entryRecord, Function.comp_def]
  refine ⟨(entryRefused s p).map (·.1.tag), by simp [enteredFrom], ?_⟩
  rw [openTags, openTags, hkept, ← List.append_assoc]
  exact (refused_append_kept_perm (entryRefusal s p) _).append_right _

theorem tickDeadlines_closes (s : State) : Closes s (tickDeadlines s) := by
  have hport (p : Port) : (tickDeadlines s).ports.get p = tickDeadlines.tickUnit (s.ports.get p) := by cases p <;> rfl
  refine .kept (fun p => by rw [hport]; rfl) fun p => ?_
  have hheld : heldTags (tickDeadlines s) p = heldTags s p := by
    simp [heldTags, hport, tickDeadlines.tickUnit, tickDeadline, Function.comp_def]
  rw [openTags, openTags, hheld, issuedTags_of_list (by rw [tickDeadlines_mem])]

/-! ### The gate -/

theorem enterRunning_closes (s : State) : Closes s (enterRunning s) := (planEntry_closes _).after_same

theorem makeSwap_closes (s : State) : Closes s (makeSwap s) := by
  unfold makeSwap
  split
  · exact .refl s
  · rw [activate_eq]
    exact ((planEntry_closes _).trans .same).after_same

theorem frameBoundary_closes (s : State) : Closes s (frameBoundary s) :=
  ((makeSwap_closes (nextFrame s)).trans (.ite (enterStopped_closes _) .same)).after_same

theorem takeWalkTick_closes (s : State) : Closes s (takeWalkTick s) := by
  have hexpired (t : State) : Closes t (expireWindow t) := .ite .same (frameBoundary_closes t)
  exact .ite .same (.ite ((hexpired _).after_same) .same)

theorem takeOwedWalk_closes (s : State) : Closes s (takeOwedWalk s) := .ite (takeWalkTick_closes s) (.refl s)

theorem seenEdge_closes (e : SyncEdge) (s : State) : Closes s (seenEdge e s) := by
  have hact (o : SyncOutcome) (t : State) : Closes t (actOnOutcome o t) := by
    cases o with
    | started => exact enterRunning_closes t
    | earlyCut => exact frameBoundary_closes t
    | lateRewind => exact .same
    | outOfLimit => exact .same
    | none => exact .refl t
    | observed => exact .refl t
    | inStep => exact .refl t
  exact .ite ((hact _ _).after_same) (.refl s)

theorem completeCheck_closes (s : State) : Closes s (completeCheck s) := by
  unfold completeCheck
  split <;> exact .same

/-! ### The memory port -/

/-- The loss of posted writes leaves the port units and the memory port (R118). -/
theorem loseEntry_foldl_ports_mem (reason : FaultReason) (l : List PostedEntry) (s : State) :
    (l.foldl (loseEntry reason) s).ports = s.ports ∧ (l.foldl (loseEntry reason) s).mem = s.mem := by
  induction l generalizing s with
  | nil => exact ⟨rfl, rfl⟩
  | cons e l ih => exact ih (loseEntry reason s e)

/-- The state with what is left of the issue list while its entries are answered one after another. -/
def withIssues (l : List IssueEntry) (s : State) : State := { s with mem := { s.mem with issueList := l } }

/-- The abandonment of every issue, oldest first (R143 step 3). -/
theorem abandonIssue_foldl_closes (l : List IssueEntry) (s : State) :
    Closes (withIssues l s) (withIssues [] (l.foldl abandonIssue s)) := by
  induction l generalizing s with
  | nil => exact .refl _
  | cons e l ih =>
    refine .trans ?_ (ih (abandonIssue s e))
    cases howed : owedTo e with
    | none => exact .of_unowed rfl howed rfl (by simp [withIssues, abandonIssue, howed])
    | some x => exact .of_oldest (e := e) rfl howed rfl (by simp [withIssues, abandonIssue, howed, answer, mapPort])

theorem abandonReset_closes (s : State) : Closes s (abandonReset s) := .ite .same (.refl s)

/-- A memory failure answers the issued requests, and then the held ones (R143 steps 3 and 6). -/
theorem memoryFailure_closes (why : FailureKind) (s : State) : Closes s (memoryFailure why s) := by
  have hposted : Closes s (withIssues s.mem.issueList (abandonPosted { s with mem := { s.mem with state := .failed } })) :=
    .same (loseEntry_foldl_ports_mem _ _ _).1
  have hissued := hposted.trans (abandonIssue_foldl_closes s.mem.issueList _)
  exact hissued.trans ((enterFaulted_closes _).trans (abandonReset_closes _)).after_same

theorem timeoutTest_closes (s : State) : Closes s (timeoutTest s) := .ite (memoryFailure_closes _ s) (.refl s)

theorem completePosted_ports_mem (t : IssueTag) (ok : Bool) (s : State) :
    (completePosted t ok s).ports = s.ports ∧ (completePosted t ok s).mem = s.mem := by
  unfold completePosted
  split
  · exact ⟨rfl, rfl⟩
  · dsimp only
    split <;> exact ⟨rfl, rfl⟩

/-- The completion of the oldest entry answers the request it was issued for, unless it is an orphan (R132 to R134). -/
theorem completeEntry_closes {s : State} {e : IssueEntry} {rest : List IssueEntry} (hlist : s.mem.issueList = e :: rest)
    (m : MemResponse) : Closes s (completeEntry e m (withIssues rest s)) := by
  unfold completeEntry
  split
  · rename_i p t hsource
    unfold completePort
    split_ifs with horphan
    · exact .of_unowed hlist (by simp [owedTo, hsource, horphan]) rfl rfl
    · exact .of_oldest hlist (by simp [owedTo, hsource, horphan]) rfl rfl
    · exact .of_oldest hlist (by simp [owedTo, hsource, horphan]) rfl rfl
  · rename_i hsource
    obtain ⟨hports, hmem⟩ := completePosted_ports_mem e.issueTag (completesOk e m) (withIssues rest s)
    exact .of_unowed hlist (by simp [owedTo, hsource]) (by rw [hmem]; rfl) hports

theorem takeResponse_closes (m : MemResponse) (s : State) : Closes s (takeResponse m s) := by
  unfold takeResponse
  split
  · exact .refl s
  · exact .refl s
  · split
    · exact memoryFailure_closes _ s
    · rename_i hlist
      exact .ite ((completeEntry_closes hlist m).trans (timeoutTest_closes _)) (memoryFailure_closes _ s)

theorem recoverySucceeds_closes (s : State) : Closes s (recoverySucceeds s) := (enterStopped_closes _).after_same

theorem endPulse_closes (s : State) : Closes s (endPulse s) :=
  .ite (.ite ((recoverySucceeds_closes _).after_same) .same) (.refl s)

theorem memrdyRises_closes (s : State) : Closes s (memrdyRises s) := by
  unfold memrdyRises
  split
  · exact recoverySucceeds_closes s
  · exact .refl s
  · exact .refl s

theorem expireReadyWait_closes (s : State) : Closes s (expireReadyWait s) := .ite .same (.refl s)

/-- An issue-list entry grows older, and keeps its tag and what it is owed (R128). -/
theorem tickMemory_closes (s : State) : Closes s (tickMemory s) := by
  refine .kept (fun _ => rfl) fun p => ?_
  have hissued : issuedTags (tickMemory s) p = issuedTags s p := by
    simp only [issuedTags_eq, tickMemory, tickAges, List.filterMap_map]
    rfl
  rw [openTags, openTags, hissued]
  rfl

/-! ### Grants -/

section
variable (t : IssueTag) (k : Kind) (a : Addr) (n : Nat) (d : List Beat) (s : State) (p : Port)

/-- A port's access joins the tail of the issue list, owed to that port (R126). -/
theorem issuedTags_issueAccess_port (q : Port) (tag : Tag) :
    issuedTags (issueAccess t (.port q tag) k a n d s) p = issuedTags s p ++ if q = p then [tag] else [] := by
  simp only [issuedTags_eq, issueAccess, List.filterMap_append]
  split_ifs with hq <;> simp [owedTag, owedTo, hq]

/-- A posted write's access is owed to no port (R126). -/
theorem issuedTags_issueAccess_posted : issuedTags (issueAccess t .posted k a n d s) p = issuedTags s p := by
  simp [issuedTags_eq, issueAccess, owedTag, owedTo]

end

/-- The head that is granted goes from the queue to the tail of the issue list and keeps its tag (R96, R126). -/
theorem grantPort_closes (p : Port) (t : IssueTag) (s : State) : Closes s (grantPort p t s) := by
  unfold grantPort
  split
  · exact .refl s
  · rename_i h rest hqueue
    refine .of_port [] rfl (tagsWithout_nil _).symm ?_ fun q hq => ?_
    · have hmoved : (h.tag :: (rest.map (·.tag) ++ issuedTags s p)).Perm
          (rest.map (·.tag) ++ (issuedTags s p ++ [h.tag])) := by
        rw [← List.append_assoc]
        exact (List.perm_append_singleton _ _).symm
      rw [issuedTags_issueAccess_port, if_pos rfl, openTags, heldTags, hqueue]
      exact hmoved
    · rw [issuedTags_issueAccess_port, if_neg (Ne.symm hq), List.append_nil]
      rfl

theorem grantRetire_closes (t : IssueTag) (s : State) : Closes s (grantRetire t s) := by
  unfold grantRetire
  split
  · exact .refl s
  · refine .kept (fun _ => rfl) fun p => ?_
    rw [openTags, openTags, issuedTags_issueAccess_posted]
    exact .refl _

theorem decideGrant_closes (memReady : Bool) (s : State) : Closes s (decideGrant memReady s) := by
  unfold decideGrant
  refine .ite ?_ (.refl s)
  split
  · rename_i c t _ _
    cases c with
    | port p => exact grantPort_closes p t s
    | retire => exact grantRetire_closes t s
  · exact .refl s

/-! ### The tick and the settings -/

theorem setDevice_ports (d : Device) (s : State) : (setDevice d s).ports = s.ports := by
  unfold setDevice restartTick
  split <;> rfl

theorem setDevice_mem (d : Device) (s : State) : (setDevice d s).mem = s.mem := by
  unfold setDevice restartTick
  split <;> rfl

theorem setDevice_closes (d : Device) (s : State) : Closes s (setDevice d s) :=
  .same (setDevice_ports d s) (by rw [setDevice_mem])

theorem takeResetStep_closes (s : State) : Closes s (takeResetStep s) := .ite (.same (setDevice_ports _ s)) (.refl s)

theorem takeDue_closes (s : State) : Closes s (takeDue s) :=
  (((((takeOwedWalk_closes s).trans (expireAll_closes _)).trans (completeCheck_closes _)).trans (timeoutTest_closes _)).trans
    ((endPulse_closes _).trans (expireReadyWait_closes _))).trans (takeResetStep_closes _)

theorem tickWalk_closes (s : State) : Closes s (tickWalk s) := .ite .same (takeWalkTick_closes s)

theorem tickReset_closes (s : State) : Closes s (tickReset s) := .ite .same (.refl s)

theorem gateTick_closes (s : State) : Closes s (gateTick s) := by
  have hdue : Closes s { takeDue s with ticked := 0 } := (takeDue_closes s).trans .same
  have hcounted := ((hdue.trans (tickWalk_closes _)).trans (tickDeadlines_closes _)).trans (tickMemory_closes _)
  have hcheck (t : State) : Closes t (tickCheck t) := .same
  exact (hcounted.trans (hcheck _)).trans (tickReset_closes _)

theorem countCycle_closes (s : State) : Closes s (countCycle s) :=
  .ite .same ((gateTick_closes s).trans (takeDue_closes _))

theorem applyDevice_closes (d : Device) (s : State) : Closes s (applyDevice d s) := by
  have hcleared := (setDevice_closes d s).trans
    (.ite (c := (s.device.bootPass && !d.bootPass) = true) (clearQueue_closes .closed .p0 _) (.refl _))
  exact .ite hcleared (hcleared.trans (timeoutTest_closes _))

/-! ### The management commands -/

theorem planWrite_closes (plan : Byte) (change : Option (Plan → Plan)) (s : State) : Closes s (planWrite plan change s).1 := by
  unfold planWrite
  split
  · exact .same
  · split <;> exact .same

theorem takeCopyPlan_closes (s : State) : Closes s (takeCopyPlan s).1 := by
  simp only [takeCopyPlan]
  split
  · exact .same
  · split_ifs <;> exact .same

theorem takeCheckPlan_closes (plan : Byte) (s : State) : Closes s (takeCheckPlan plan s).1 := by
  simp only [takeCheckPlan]
  split
  · exact .same
  · split_ifs <;> exact .same

theorem takeReadPlanItem_closes (n t i : Byte) (s : State) : Closes s (takeReadPlanItem n t i s).1 := by
  unfold takeReadPlanItem
  split
  · exact .same
  · split <;> exact .same

theorem takeRequestSwap_closes (plan : Byte) (s : State) : Closes s (takeRequestSwap plan s).1 := by
  unfold takeRequestSwap
  split
  · exact .same
  · split
    · unfold swapStopped
      rw [activate_eq]
      split_ifs <;> exact .same
    · unfold swapRunning
      split_ifs <;> exact .same
    · exact .same
    · exact .same
    · exact .same

theorem takeReadFault_closes (port take : Byte) (s : State) : Closes s (takeReadFault port take s).1 := by
  unfold takeReadFault
  split
  · exact .ite .same .same
  · exact .same

theorem takeReadSync_closes (take : Byte) (s : State) : Closes s (takeReadSync take s).1 := by
  unfold takeReadSync
  split <;> exact .same

theorem takeTakeEvents_closes (m : BitVec 16) (s : State) : Closes s (takeTakeEvents m s).1 := by
  unfold takeTakeEvents
  split <;> exact .same

theorem takeSetAlerts_closes (m : BitVec 16) (s : State) : Closes s (takeSetAlerts m s).1 := by
  unfold takeSetAlerts
  split <;> exact .same

theorem takeSetSync_closes (m e : Byte) (l : BitVec 16) (s : State) : Closes s (takeSetSync m e l s).1 := by
  unfold takeSetSync
  split
  · split_ifs <;> exact .same
  · exact .same

theorem takeSetDevice_closes (d : Byte) (l : BitVec 16) (p b : Byte) (s : State) : Closes s (takeSetDevice d l p b s).1 := by
  unfold takeSetDevice
  split
  · split_ifs
    · exact .same
    · exact .same
    · exact applyDevice_closes _ s
  · exact .same

theorem takeStart_closes (mode : Byte) (s : State) : Closes s (takeStart mode s).1 := by
  unfold takeStart
  split_ifs
  · exact .same
  · exact .same
  · exact .same
  · exact enterRunning_closes s
  · exact .same
  · exact .same

theorem takeHalt_closes (s : State) : Closes s (takeHalt s).1 := by
  unfold takeHalt
  split
  · exact .same
  · exact .same
  · exact enterStopped_closes s
  · exact .same
  · exact .same

theorem takeHaltNow_closes (s : State) : Closes s (takeHaltNow s).1 := by
  have hstop : Closes s (enterStopped (withdrawPending s)) := (enterStopped_closes _).after_same
  unfold takeHaltNow
  split
  · exact hstop
  · exact hstop
  · exact hstop
  · exact .same
  · exact .same

theorem takeRecover_closes (s : State) : Closes s (takeRecover s).1 := by
  unfold takeRecover
  split_ifs <;> exact .same

theorem takeResetGate_closes (s : State) : Closes s (takeResetGate s).1 := by
  have hbegin (t : State) : Closes t (beginReset t) := (clearQueue_closes _ _ _).after_same
  unfold takeResetGate
  split
  · exact .same
  · exact .same
  · exact .same
  · exact (enterStopped_closes s).trans (hbegin _)
  · exact hbegin s

/-- Every management command's rule answers requests at most. -/
theorem commandRule_closes {c : Instr} {rule : State → State × Reply} (hc : commandRule c = some rule) (s : State) :
    Closes s (rule s).1 := by
  cases c <;> cases hc
  case status => exact .same
  case takeEvents m => exact takeTakeEvents_closes m s
  case readFault p t => exact takeReadFault_closes p t s
  case readSync t => exact takeReadSync_closes t s
  case readRecoveryReport => exact .same
  case setAlerts m => exact takeSetAlerts_closes m s
  case setDevice d l p b => exact takeSetDevice_closes d l p b s
  case setSync m e l => exact takeSetSync_closes m e l s
  case writeWindow => exact planWrite_closes _ _ s
  case setWindowCount => exact planWrite_closes _ _ s
  case writeRegion => exact planWrite_closes _ _ s
  case setRegionCount => exact planWrite_closes _ _ s
  case writePortSettings => exact planWrite_closes _ _ s
  case writeCosts => exact planWrite_closes _ _ s
  case readPlanItem n t i => exact takeReadPlanItem_closes n t i s
  case copyPlan => exact takeCopyPlan_closes s
  case checkPlan n => exact takeCheckPlan_closes n s
  case requestSwap n => exact takeRequestSwap_closes n s
  case withdrawSwap => exact .same
  case start m => exact takeStart_closes m s
  case halt => exact takeHalt_closes s
  case haltNow => exact takeHaltNow_closes s
  case recover => exact takeRecover_closes s
  case resetGate => exact takeResetGate_closes s

/-! ### Arrivals, link resets and the resets of the part -/

/-- A request joins with a tag that is not outstanding (R56, R58). -/
theorem joinQueue_tagLaw {p : Port} {r : Request} {s : State} (h : TagLaw s) (htag : r.tag ∉ (s.ports.get p).tags) :
    TagLaw (joinQueue p r s) := by
  intro q
  obtain ⟨hnodup, hperm⟩ := h q
  by_cases hq : q = p
  · subst hq
    have htags : ((joinQueue q r s).ports.get q).tags = (s.ports.get q).tags ++ [r.tag] := by simp [joinQueue, mapPort]
    have hheld : heldTags (joinQueue q r s) q = heldTags s q ++ [r.tag] := by simp [heldTags, joinQueue, mapPort, heldRecord]
    rw [htags, hheld, issuedTags_of_list (by rw [joinQueue_mem]), List.append_assoc]
    refine ⟨by simpa using hnodup.concat htag, ?_⟩
    exact List.perm_middle.trans ((hperm.cons r.tag).trans (List.perm_append_singleton _ _).symm)
  · have hunit : (joinQueue p r s).ports.get q = s.ports.get q := PerPort.get_set_other _ _ hq
    rw [heldTags, hunit]
    exact ⟨hnodup, hperm⟩

theorem acceptRequest_tagLaw {p : Port} {r : Request} {s : State} (h : TagLaw s) : TagLaw (acceptRequest p r s) := by
  have hsame {t : State} (hc : Closes s t) : TagLaw t := hc.tagLaw h
  by_cases hg : s.sched.gate = .faulted
  · rw [acceptRequest_faulted hg]
    exact hsame .same
  cases hrule : protocolFault s p r with
  | some reason =>
    rw [acceptRequest_broken hg hrule]
    exact hsame .same
  | none =>
    have hjoined := joinQueue_tagLaw h (tag_unused_of_protocolFault hrule)
    rw [acceptRequest_unbroken hg hrule]
    unfold acceptUnbroken placeChecked
    split
    · split
      · exact hsame .same
      · exact hsame .same
      · split
        · exact hsame .same
        · exact hjoined
    · exact hjoined

/-- A port with nothing outstanding, held or issued. -/
theorem tagLaw_at_empty {s : State} {p : Port} (htags : (s.ports.get p).tags = []) (hopen : openTags s p = []) :
    (s.ports.get p).tags.Nodup ∧ (heldTags s p ++ issuedTags s p).Perm (s.ports.get p).tags := by
  rw [htags]
  exact ⟨.nil, hopen ▸ .refl _⟩

theorem fromPort_iff (p : Port) (e : IssueEntry) : fromPort p e = true ↔ ∃ t, e.source = .port p t := by
  unfold fromPort
  split <;> simp_all

theorem owedTag_of_orphan {e : IssueEntry} (h : e.orphan = true) (p : Port) : owedTag p e = none := by
  cases hsource : e.source with
  | port q t => rw [owedTag_port hsource, if_neg (by simp [h])]
  | posted => exact owedTag_posted hsource p

/-- An entry is owed to no port but the one it came from. -/
theorem owedTag_of_not_fromPort {p : Port} {e : IssueEntry} (h : ¬ fromPort p e = true) : owedTag p e = none := by
  rw [fromPort_iff] at h
  cases hsource : e.source with
  | port q t =>
    have hq : q ≠ p := by rintro rfl; exact h ⟨t, hsource⟩
    rw [owedTag_port hsource, if_neg fun hn => hq hn.1]
  | posted => exact owedTag_posted hsource p

/-- An entry of the port that is reset is owed to no one, and every other to whom it was (R65 step 4, R134). -/
theorem owedTag_orphaned (p q : Port) (e : IssueEntry) :
    owedTag q (if fromPort p e then { e with orphan := true } else e) = if q = p then none else owedTag q e := by
  by_cases hp : fromPort p e = true
  · obtain ⟨t, hsource⟩ := (fromPort_iff p e).mp hp
    rw [if_pos hp, owedTag_of_orphan rfl]
    split_ifs with hq
    · rfl
    · rw [owedTag_port hsource, if_neg fun hn => hq hn.1.symm]
  · rw [if_neg hp]
    split_ifs with hq
    · exact hq ▸ owedTag_of_not_fromPort hp
    · rfl

/-- A link reset leaves its port nothing but orphans, and the other ports what they had (R65). -/
theorem resetPort_tagLaw (p : Port) {s : State} (h : TagLaw s) : TagLaw (resetPort p s) := by
  intro q
  have hissued : issuedTags (resetPort p s) q = if q = p then [] else issuedTags s q := by
    simp only [issuedTags_eq, resetPort, raise_mem, orphanIssues, mapPort_mem, List.filterMap_map, Function.comp_def,
      owedTag_orphaned]
    split_ifs <;> simp
  by_cases hq : q = p
  · subst hq
    have hunit : (resetPort q s).ports.get q = { s.ports.get q with tags := [], queue := [] } := PerPort.get_set_same _ _ _
    refine tagLaw_at_empty (by rw [hunit]) ?_
    rw [openTags, heldTags, hunit, hissued, if_pos rfl]
    rfl
  · have hunit : (resetPort p s).ports.get q = s.ports.get q := PerPort.get_set_other _ _ hq
    rw [heldTags, hissued, if_neg hq, hunit]
    exact h q

theorem resetWith_tagLaw (plans : PerPlan Plan) (s : State) : TagLaw (resetWith plans s) := fun p =>
  tagLaw_at_empty (by cases p <;> rfl) (by cases p <;> rfl)

/-! ### Every step -/

theorem PartEvent.tagLaw {s t : State} (he : PartEvent s t) (h : TagLaw s) : TagLaw t := by
  cases he with
  | powerOn => exact resetWith_tagLaw _ s
  | pinReset => exact resetWith_tagLaw _ s
  | linkReset p => exact resetPort_tagLaw p h
  | gateTick => exact (gateTick_closes s).tagLaw h
  | windowExpiry => exact (takeOwedWalk_closes s).tagLaw h
  | holdLimitExpiry p => exact (expireOne_closes p s).tagLaw h
  | checkCompletion => exact (completeCheck_closes s).tagLaw h
  | timeout => exact (timeoutTest_closes s).tagLaw h
  | pulseEnd => exact (endPulse_closes s).tagLaw h
  | memrdyRise => exact (memrdyRises_closes s).tagLaw h
  | readyWaitExpiry => exact (expireReadyWait_closes s).tagLaw h
  | resetStep => exact (takeResetStep_closes s).tagLaw h
  | syncEdge e => exact (seenEdge_closes e s).tagLaw h
  | arrival p r => exact acceptRequest_tagLaw h
  | grant memReady => exact (decideGrant_closes memReady s).tagLaw h
  | memoryResponse m => exact (takeResponse_closes m s).tagLaw h
  | due => exact (takeDue_closes s).tagLaw h
  | clock => exact (countCycle_closes s).tagLaw h

/-- Settles O13: an arrival records a tag that is not outstanding, a reset leaves none, and every other step closes. -/
theorem stepKeepsTheTagLaw : Obligations.StepKeepsTheTagLaw := by
  intro s t h ht
  cases step_moves ht with
  | idle hi => exact hi.closes.tagLaw h
  | event before he => exact he.tagLaw (before.closes.tagLaw h)
  | command hc before _ after => exact ((before.closes.trans (commandRule_closes hc _)).trans after.closes).tagLaw h

end Sys2Proof.Machine
end

section
/-! SUPPORT. The region checker: which region decides a request, what the span, the right and the cost of a request come to
(R69 to R73), and the refusals at an arrival. -/

namespace Sys2Proof.Machine

-- One proof at a time, as in the sections before.
set_option Elab.async false

/-! ### The deciding region -/

theorem regionContains_iff (r : Region) (a : Addr) : regionContains r a = true ↔ HoldsByte r a := by
  simp [regionContains, HoldsByte]

theorem regionContains_eq_false_iff (r : Region) (a : Addr) : regionContains r a = false ↔ ¬ HoldsByte r a := by
  rw [← regionContains_iff, Bool.not_eq_true]

/-- The records end at index 15; an index above reads an unwritten record, which holds no byte (log entry 14). -/
theorem HoldsByte.index_lt {plan : Plan} {i : Nat} {a : Addr} (h : HoldsByte (regionAt plan i) a) : i < 16 := by
  by_contra hi
  have hunwritten : regionAt plan i = Region.unwritten := List.getD_eq_default _ _ (by simpa using hi)
  obtain ⟨hbase, hend⟩ := hunwritten ▸ h
  exact absurd hend (Nat.not_lt.mpr hbase)

theorem countedRegions_getElem? (plan : Plan) {i : Nat} (hcount : i < plan.regionCount) (hi : i < 16) :
    (countedRegions plan)[i]? = some (regionAt plan i) := by
  have hlength : i < plan.regions.toList.length := by simpa using hi
  rw [countedRegions, List.getElem?_take_of_lt hcount, List.getElem?_eq_getElem hlength, regionAt,
    List.getD_eq_getElem _ _ hlength]

/-- A counted region is the record of an index below the count. -/
theorem eq_regionAt_of_countedRegions {plan : Plan} {i : Nat} {r : Region} (h : (countedRegions plan)[i]? = some r) :
    i < plan.regionCount ∧ r = regionAt plan i := by
  obtain ⟨hi, -⟩ := List.getElem?_eq_some_iff.mp h
  simp only [countedRegions, List.length_take, Vector.length_toList, lt_min_iff] at hi
  rw [countedRegions_getElem? plan hi.1 hi.2] at h
  exact ⟨hi.1, (Option.some.inj h).symm⟩

theorem decidingRegion_eq_none {plan : Plan} {a : Addr} (h : ∀ i < plan.regionCount, ¬ HoldsByte (regionAt plan i) a) :
    decidingRegion plan a = none := by
  refine List.find?_eq_none.mpr fun ⟨r, i⟩ hr => ?_
  obtain ⟨hi, rfl⟩ := eq_regionAt_of_countedRegions (List.mk_mem_zipIdx_iff_getElem?.mp hr)
  simpa [regionContains_iff] using h i hi

/-- The search finds the deciding region of R69. -/
theorem decidingRegion_eq_some {plan : Plan} {a : Addr} {i : Nat} (h : DecidingRegion plan a i) :
    decidingRegion plan a = some (regionAt plan i, i) := by
  obtain ⟨hcount, hholds, hlower⟩ := h
  have hi := countedRegions_getElem? plan hcount hholds.index_lt
  obtain ⟨hlength, -⟩ := List.getElem?_eq_some_iff.mp hi
  refine List.find?_eq_some_iff_getElem.mpr
    ⟨(regionContains_iff _ _).mpr hholds, i, by simpa using hlength, ?_, fun j hj => ?_⟩
  · simp [(List.getElem?_eq_some_iff.mp hi).2]
  · have hj' := countedRegions_getElem? plan (hj.trans hcount) (hj.trans hholds.index_lt)
    simp [(List.getElem?_eq_some_iff.mp hj').2, regionContains_eq_false_iff, hlower j hj]

/-! ### The verdict -/

theorem rightCovers_iff (right : Rights) (kind : Kind) : rightCovers right kind = true ↔ Grants right kind := by
  cases right <;> cases kind <;> simp [rightCovers, Grants]

/-- Regions begin and end on 4 KiB boundaries, which no span of the bus crosses: a region that holds the first byte of a
span holds the whole of it (R3, R56; log entry 15). -/
theorem spanInside_of_holdsByte {plan : Plan} {a : Addr} {beats i : Nat} (hplan : PlanRange plan)
    (hpage : a.toNat % 4096 + beats * 8 ≤ 4096) (h : HoldsByte (regionAt plan i) a) :
    spanInside (regionAt plan i) a beats = true := by
  obtain ⟨-, -, -, -, -, hregions, -⟩ := hplan
  have hlength : i < plan.regions.toList.length := by simpa using h.index_lt
  have hmem : regionAt plan i ∈ plan.regions.toList := by
    rw [regionAt, List.getD_eq_getElem _ _ hlength]
    exact List.getElem_mem hlength
  obtain ⟨hbase, hsize, -⟩ := hregions _ hmem
  obtain ⟨hlow, hhigh⟩ := h
  refine decide_eq_true ?_
  simp only [spanBytes, Config.beatBytes]
  omega

section
variable {plan : Plan} {p : Port} {kind : Kind} {a : Addr} {beats i : Nat}

/-- R69: no counted region holds the first byte. -/
theorem verdict_noRegion (h : ∀ i < plan.regionCount, ¬ HoldsByte (regionAt plan i) a) :
    verdict plan p kind a beats = .denied .noRegion := by
  simp [verdict, regionCheck, decidingRegion_eq_none h]

/-- The region check on a span that its deciding region holds rests on the right of that region alone (R70, R71). -/
theorem regionCheck_of_deciding (hspan : spanInside (regionAt plan i) a beats = true) (h : DecidingRegion plan a i) :
    regionCheck plan p kind a beats =
      if rightCovers ((regionAt plan i).rights.get p) kind then .pass i (regionAt plan i).posting else .denied .rights := by
  simp only [regionCheck, decidingRegion_eq_some h, hspan, Bool.not_true, Bool.false_eq_true, if_false]
  cases rightCovers ((regionAt plan i).rights.get p) kind <;> rfl

/-- R71: the deciding region gives the port no right for the kind. -/
theorem verdict_rights (hspan : spanInside (regionAt plan i) a beats = true) (h : DecidingRegion plan a i)
    (hright : ¬ Grants ((regionAt plan i).rights.get p) kind) : verdict plan p kind a beats = .denied .rights := by
  rw [← rightCovers_iff] at hright
  rw [verdict, regionCheck_of_deciding hspan h, if_neg hright]

/-- R72 and R73: past the region check the cost decides. -/
theorem verdict_of_grants (hspan : spanInside (regionAt plan i) a beats = true) (h : DecidingRegion plan a i)
    (hright : Grants ((regionAt plan i).rights.get p) kind) :
    verdict plan p kind a beats =
      if plan.overhead + beats * plan.beatCost ≤ plan.derived.longestOpen.get p then .pass i (regionAt plan i).posting
      else .tooLong (if plan.derived.longestOpen.get p = 0 then .noWindow else .tooLong) := by
  rw [← rightCovers_iff] at hright
  rw [verdict, regionCheck_of_deciding hspan h, if_pos hright, apply_ite Verdict.tooLong]
  rfl

end

/-! ### The checker at an arrival -/

theorem gate_ne_faulted_of_walking {s : State} (h : walking s = true) : s.sched.gate ≠ .faulted := by
  intro hg
  simp [walking, hg] at h

/-- While the gate walks the contents that govern it are those of the active plan, in the ranges of R2 to R7. -/
theorem planRange_governing {s : State} (hplan : PlanLaw s) (hrange : RangeLaw s) (hw : walking s = true) :
    PlanRange (governing s) := by
  obtain ⟨-, -, -, -, -, -, -, hactive⟩ := hplan
  obtain ⟨hplans, -⟩ := hrange
  obtain ⟨n, hn⟩ := Option.ne_none_iff_exists'.mp (hactive (.inl hw))
  simpa [governing, hn] using hplans n

section
variable {p : Port} {r : Request} {s : State}

/-- A request that reaches the checker breaks no bus rule, so that the verdict decides it (R57, R75). -/
theorem exec_requestArrival_checked (h : ReachesTheChecker s p r) :
    exec (.requestArrival p r) s = .next (acceptUnbroken p r (quiet s)) := by
  obtain ⟨hout, hr, hready, hw, ha, hpage, htag⟩ := h
  have hbroken : protocolFault (quiet s) p r = none := (protocolFault_of_span ha hpage).trans (if_neg htag)
  rw [exec_requestArrival_taken hout hr hready, acceptRequest_unbroken (s := quiet s) (gate_ne_faulted_of_walking hw) hbroken]

theorem acceptUnbroken_denied {reason : FaultReason} (hw : walking s = true)
    (hv : verdict (governing s) p r.kind r.addr r.beats = .denied reason) :
    acceptUnbroken p r s = rejectArrival p r .denied reason s := by
  rw [acceptUnbroken, if_pos hw, hv]

theorem acceptUnbroken_tooLong {reason : FaultReason} (hw : walking s = true)
    (hv : verdict (governing s) p r.kind r.addr r.beats = .tooLong reason) :
    acceptUnbroken p r s = rejectArrival p r .tooLong reason s := by
  rw [acceptUnbroken, if_pos hw, hv]

end

/-- Settles O43: the verdict on the arriving request, path by path of R69 to R73. -/
theorem arrivalRefusedByTheChecker : Obligations.ArrivalRefusedByTheChecker := by
  intro p r s hlaw hreach refused cost longest
  obtain ⟨-, -, -, hplan, -, -, -, hrange, -, -⟩ := hlaw
  have ⟨_, _, _, hw, _, hpage, _⟩ := hreach
  have hdenied {reason : FaultReason} (hv : verdict (governing s) p r.kind r.addr r.beats = .denied reason) :
      exec (.requestArrival p r) s = refused .denied reason := by
    rw [exec_requestArrival_checked hreach, acceptUnbroken_denied (s := quiet s) hw hv, rejectArrival_quiet]
  have htooLong {reason : FaultReason} (hv : verdict (governing s) p r.kind r.addr r.beats = .tooLong reason) :
      exec (.requestArrival p r) s = refused .tooLong reason := by
    rw [exec_requestArrival_checked hreach, acceptUnbroken_tooLong (s := quiet s) hw hv, rejectArrival_quiet]
  refine ⟨fun hnone => hdenied (verdict_noRegion hnone), fun i hi => ?_⟩
  have ⟨_, hholds, _⟩ := hi
  have hspan : spanInside (regionAt (governing s) i) r.addr r.beats = true :=
    spanInside_of_holdsByte (planRange_governing hplan hrange hw) hpage hholds
  refine ⟨fun hright => hdenied (verdict_rights hspan hi hright), fun hright hcost => htooLong ?_⟩
  rw [verdict_of_grants hspan hi hright, if_neg (Nat.not_le.mpr hcost)]

end Sys2Proof.Machine
end

section
/-! SUPPORT. R79: what a grant issues, and that no other step adds to the issue list, so that an access of a port is the head
of its hold queue. -/

namespace Sys2Proof.Machine

-- One proof at a time, as in the sections before.
set_option Elab.async false

/-! ### Events that issue nothing -/

/-- The issue list has not grown: accesses have left it at most (R128). -/
def AddsNoIssue (s t : State) : Prop := t.mem.issueList.length ≤ s.mem.issueList.length

namespace AddsNoIssue

/-- An update that does not name the issue list. -/
theorem same {s t : State} (h : t.mem.issueList = s.mem.issueList := by rfl) : AddsNoIssue s t :=
  (congrArg List.length h).le

theorem refl (s : State) : AddsNoIssue s s := same

theorem trans {s t u : State} (h : AddsNoIssue s t) (h' : AddsNoIssue t u) : AddsNoIssue s u := le_trans h' h

/-- Such an update before an event that adds nothing. -/
theorem after_same {s t u : State} (h : AddsNoIssue t u) (hlist : t.mem.issueList = s.mem.issueList := by rfl) :
    AddsNoIssue s u := (same hlist).trans h

theorem foldl {α : Type} {f : State → α → State} (h : ∀ a s, AddsNoIssue s (f s a)) (l : List α) (s : State) :
    AddsNoIssue s (l.foldl f s) := by
  induction l generalizing s with
  | nil => exact refl s
  | cons a l ih => exact (h a s).trans (ih (f s a))

theorem ite {c : Prop} [Decidable c] {s t u : State} (ht : AddsNoIssue s t) (hu : AddsNoIssue s u) :
    AddsNoIssue s (if c then t else u) := by
  split <;> assumption

theorem of_nil {s t : State} (h : t.mem.issueList = []) : AddsNoIssue s t := by simp [AddsNoIssue, h]

/-- One more entry than before is an addition. -/
theorem ne_append {s t : State} (h : AddsNoIssue s t) (e : IssueEntry) : t.mem.issueList ≠ s.mem.issueList ++ [e] := by
  intro hlist
  rw [AddsNoIssue, hlist, List.length_append] at h
  exact absurd h (Nat.not_succ_le_self _)

end AddsNoIssue

theorem Idle.issueList {s t : State} (h : Idle s t) : t.mem.issueList = s.mem.issueList := by rw [← h.mem]

theorem Idle.addsNoIssue {s t : State} (h : Idle s t) : AddsNoIssue s t := .same h.issueList

/-! ### The hold queues and the gate -/

theorem clearQueue_addsNoIssue (st : Status) (p : Port) (s : State) : AddsNoIssue s (clearQueue st p s) := by
  rw [clearQueue_eq]; exact .same

theorem enterStopped_addsNoIssue (s : State) : AddsNoIssue s (enterStopped s) := by
  rw [enterStopped_eq]; exact .same

theorem planEntry_addsNoIssue (s : State) : AddsNoIssue s (planEntry s) := by
  rw [planEntry_eq]; exact .same

theorem enterRunning_addsNoIssue (s : State) : AddsNoIssue s (enterRunning s) := (planEntry_addsNoIssue _).after_same

theorem expireOne_addsNoIssue (p : Port) (s : State) : AddsNoIssue s (expireOne p s) := by
  unfold expireOne
  split <;> exact .same

theorem expireAll_addsNoIssue (s : State) : AddsNoIssue s (expireAll s) :=
  .foldl (fun p t => .foldl (fun _ => expireOne_addsNoIssue p) _ t) _ s

theorem makeSwap_addsNoIssue (s : State) : AddsNoIssue s (makeSwap s) := by
  unfold makeSwap
  split
  · exact .refl s
  · rw [activate_eq]
    exact ((planEntry_addsNoIssue _).trans .same).after_same

theorem frameBoundary_addsNoIssue (s : State) : AddsNoIssue s (frameBoundary s) :=
  ((makeSwap_addsNoIssue (nextFrame s)).trans (.ite (enterStopped_addsNoIssue _) .same)).after_same

theorem takeWalkTick_addsNoIssue (s : State) : AddsNoIssue s (takeWalkTick s) := by
  have hexpired (t : State) : AddsNoIssue t (expireWindow t) := .ite .same (frameBoundary_addsNoIssue t)
  exact .ite .same (.ite ((hexpired _).after_same) .same)

theorem takeOwedWalk_addsNoIssue (s : State) : AddsNoIssue s (takeOwedWalk s) := .ite (takeWalkTick_addsNoIssue s) (.refl s)

theorem seenEdge_addsNoIssue (e : SyncEdge) (s : State) : AddsNoIssue s (seenEdge e s) := by
  have hact (o : SyncOutcome) (t : State) : AddsNoIssue t (actOnOutcome o t) := by
    cases o with
    | started => exact enterRunning_addsNoIssue t
    | earlyCut => exact frameBoundary_addsNoIssue t
    | _ => exact .same
  exact .ite ((hact _ _).after_same) (.refl s)

theorem completeCheck_addsNoIssue (s : State) : AddsNoIssue s (completeCheck s) := by
  unfold completeCheck
  split <;> exact .same

/-- An arrival is answered, posted or held, and issued by a later grant (R57, R58). -/
theorem acceptRequest_addsNoIssue (p : Port) (r : Request) (s : State) : AddsNoIssue s (acceptRequest p r s) := by
  have hunbroken : AddsNoIssue s (acceptUnbroken p r s) := by
    refine .ite ?_ .same
    split
    · exact .same
    · exact .same
    · exact .ite .same .same
  refine .ite .same ?_
  split
  · exact .same
  · exact hunbroken

/-! ### The memory port -/

/-- A memory failure empties the issue list (R143 step 5). -/
theorem memoryFailure_addsNoIssue (why : FailureKind) (s : State) : AddsNoIssue s (memoryFailure why s) := by
  have hreset (t : State) : AddsNoIssue t (abandonReset t) := .ite .same (.refl t)
  have hfaulted (t : State) : AddsNoIssue t (enterFaulted t) := by
    rw [enterFaulted, clearOnFault_eq]; exact .same
  exact (AddsNoIssue.of_nil rfl).trans (((hfaulted _).trans (hreset _)).after_same)

theorem timeoutTest_addsNoIssue (s : State) : AddsNoIssue s (timeoutTest s) :=
  .ite (memoryFailure_addsNoIssue _ s) (.refl s)

theorem completeEntry_addsNoIssue (e : IssueEntry) (m : MemResponse) (s : State) : AddsNoIssue s (completeEntry e m s) := by
  unfold completeEntry
  split
  · exact .ite .same (.ite .same .same)
  · exact .same (by rw [(completePosted_ports_mem _ _ s).2])

/-- A response takes the oldest entry from the issue list (R131). -/
theorem takeResponse_addsNoIssue (m : MemResponse) (s : State) : AddsNoIssue s (takeResponse m s) := by
  unfold takeResponse
  split
  · exact .refl s
  · exact .refl s
  · split
    · exact memoryFailure_addsNoIssue _ s
    · rename_i e rest hlist
      have htaken : AddsNoIssue s { s with mem := { s.mem with issueList := rest } } := by simp [AddsNoIssue, hlist]
      exact .ite ((htaken.trans (completeEntry_addsNoIssue e m _)).trans (timeoutTest_addsNoIssue _))
        (memoryFailure_addsNoIssue _ s)

theorem recoverySucceeds_addsNoIssue (s : State) : AddsNoIssue s (recoverySucceeds s) :=
  (enterStopped_addsNoIssue _).after_same

theorem endPulse_addsNoIssue (s : State) : AddsNoIssue s (endPulse s) :=
  .ite (.ite ((recoverySucceeds_addsNoIssue _).after_same) .same) (.refl s)

theorem memrdyRises_addsNoIssue (s : State) : AddsNoIssue s (memrdyRises s) := by
  unfold memrdyRises
  split
  · exact recoverySucceeds_addsNoIssue s
  · exact .refl s
  · exact .refl s

theorem expireReadyWait_addsNoIssue (s : State) : AddsNoIssue s (expireReadyWait s) := .ite .same (.refl s)

/-- A link reset marks entries and keeps their number (R65 step 4). -/
theorem resetPort_addsNoIssue (p : Port) (s : State) : AddsNoIssue s (resetPort p s) := by
  simp [AddsNoIssue, resetPort, orphanIssues]

/-! ### The tick and the settings -/

theorem setDevice_addsNoIssue (d : Device) (s : State) : AddsNoIssue s (setDevice d s) := .same (by rw [setDevice_mem])

theorem takeResetStep_addsNoIssue (s : State) : AddsNoIssue s (takeResetStep s) := .ite .same (.refl s)

theorem takeDue_addsNoIssue (s : State) : AddsNoIssue s (takeDue s) := by
  have hcheck := ((takeOwedWalk_addsNoIssue s).trans (expireAll_addsNoIssue _)).trans (completeCheck_addsNoIssue _)
  have hmemory (t : State) : AddsNoIssue t (expireReadyWait (endPulse (timeoutTest t))) :=
    ((timeoutTest_addsNoIssue t).trans (endPulse_addsNoIssue _)).trans (expireReadyWait_addsNoIssue _)
  exact (hcheck.trans (hmemory _)).trans (takeResetStep_addsNoIssue _)

/-- A tick ages the entries of the issue list and keeps their number (R128). -/
theorem gateTick_addsNoIssue (s : State) : AddsNoIssue s (gateTick s) := by
  have hdue : AddsNoIssue s { takeDue s with ticked := 0 } := (takeDue_addsNoIssue s).trans .same
  have hwalk (t : State) : AddsNoIssue t (tickWalk t) := .ite .same (takeWalkTick_addsNoIssue t)
  have hcounts (t : State) : AddsNoIssue t (tickCheck (tickMemory (tickDeadlines t))) := by
    simp [AddsNoIssue, tickMemory, tickAges]
  have hdrain (t : State) : AddsNoIssue t (tickReset t) := .ite .same (.refl t)
  exact ((hdue.trans (hwalk _)).trans (hcounts _)).trans (hdrain _)

theorem countCycle_addsNoIssue (s : State) : AddsNoIssue s (countCycle s) :=
  .ite .same ((gateTick_addsNoIssue s).trans (takeDue_addsNoIssue _))

theorem applyDevice_addsNoIssue (d : Device) (s : State) : AddsNoIssue s (applyDevice d s) := by
  have hcleared := (setDevice_addsNoIssue d s).trans
    (.ite (c := (s.device.bootPass && !d.bootPass) = true) (clearQueue_addsNoIssue .closed .p0 _) (.refl _))
  exact .ite hcleared (hcleared.trans (timeoutTest_addsNoIssue _))

/-! ### The management commands -/

theorem planWrite_addsNoIssue (plan : Byte) (change : Option (Plan → Plan)) (s : State) :
    AddsNoIssue s (planWrite plan change s).1 := by
  unfold planWrite
  split
  · exact .same
  · split <;> exact .same

theorem takeRequestSwap_addsNoIssue (plan : Byte) (s : State) : AddsNoIssue s (takeRequestSwap plan s).1 := by
  unfold takeRequestSwap
  split
  · exact .same
  · split
    · unfold swapStopped
      rw [activate_eq]
      split_ifs <;> exact .same
    · unfold swapRunning
      split_ifs <;> exact .same
    · exact .same
    · exact .same
    · exact .same

theorem takeSetDevice_addsNoIssue (d : Byte) (l : BitVec 16) (p b : Byte) (s : State) :
    AddsNoIssue s (takeSetDevice d l p b s).1 := by
  unfold takeSetDevice
  split
  · split_ifs
    · exact .same
    · exact .same
    · exact applyDevice_addsNoIssue _ s
  · exact .same

theorem takeStart_addsNoIssue (mode : Byte) (s : State) : AddsNoIssue s (takeStart mode s).1 := by
  unfold takeStart
  split_ifs
  · exact .same
  · exact .same
  · exact .same
  · exact enterRunning_addsNoIssue s
  · exact .same
  · exact .same

theorem takeHalt_addsNoIssue (s : State) : AddsNoIssue s (takeHalt s).1 := by
  unfold takeHalt
  split
  case h_3 => exact enterStopped_addsNoIssue s
  all_goals exact .same

theorem takeHaltNow_addsNoIssue (s : State) : AddsNoIssue s (takeHaltNow s).1 := by
  have hstop : AddsNoIssue s (enterStopped (withdrawPending s)) := (enterStopped_addsNoIssue _).after_same
  unfold takeHaltNow
  split
  · exact hstop
  · exact hstop
  · exact hstop
  · exact .same
  · exact .same

theorem takeResetGate_addsNoIssue (s : State) : AddsNoIssue s (takeResetGate s).1 := by
  have hbegin (t : State) : AddsNoIssue t (beginReset t) := (clearQueue_addsNoIssue _ _ _).after_same
  unfold takeResetGate
  split
  · exact .same
  · exact .same
  · exact .same
  · exact (enterStopped_addsNoIssue s).trans (hbegin _)
  · exact hbegin s

/-- No management command issues an access; the failure that SET DEVICE can find empties the issue list (R141, R185). -/
theorem commandRule_addsNoIssue {c : Instr} {rule : State → State × Reply} (hc : commandRule c = some rule) (s : State) :
    AddsNoIssue s (rule s).1 := by
  cases c <;> cases hc
  case status => exact .same
  case takeEvents => unfold takeTakeEvents; split <;> exact .same
  case readFault =>
    unfold takeReadFault
    split
    · exact .ite .same .same
    · exact .same
  case readSync => unfold takeReadSync; split <;> exact .same
  case readRecoveryReport => exact .same
  case setAlerts => unfold takeSetAlerts; split <;> exact .same
  case setDevice d l p b => exact takeSetDevice_addsNoIssue d l p b s
  case setSync =>
    unfold takeSetSync
    split
    · split_ifs <;> exact .same
    · exact .same
  case writeWindow => exact planWrite_addsNoIssue _ _ s
  case setWindowCount => exact planWrite_addsNoIssue _ _ s
  case writeRegion => exact planWrite_addsNoIssue _ _ s
  case setRegionCount => exact planWrite_addsNoIssue _ _ s
  case writePortSettings => exact planWrite_addsNoIssue _ _ s
  case writeCosts => exact planWrite_addsNoIssue _ _ s
  case readPlanItem =>
    unfold takeReadPlanItem
    split
    · exact .same
    · split <;> exact .same
  case copyPlan =>
    simp only [takeCopyPlan]
    split
    · exact .same
    · split_ifs <;> exact .same
  case checkPlan =>
    simp only [takeCheckPlan]
    split
    · exact .same
    · split_ifs <;> exact .same
  case requestSwap n => exact takeRequestSwap_addsNoIssue n s
  case withdrawSwap => exact .same
  case start m => exact takeStart_addsNoIssue m s
  case halt => exact takeHalt_addsNoIssue s
  case haltNow => exact takeHaltNow_addsNoIssue s
  case recover => unfold takeRecover; split_ifs <;> exact .same
  case resetGate => exact takeResetGate_addsNoIssue s

/-! ### Grants -/

/-- A grant decision grants nothing, or grants the winner under the lowest free issue tag (R124 to R126). -/
theorem decideGrant_cases (memReady : Bool) (s : State) : decideGrant memReady s = s
    ∨ ∃ c tag, winner s = some c ∧ freeTag s.mem.issueList = some tag ∧ decideGrant memReady s = grantTo c tag s := by
  unfold decideGrant
  split
  · split
    · rename_i c tag hwinner htag
      exact .inr ⟨c, tag, hwinner, htag, rfl⟩
    · exact .inl rfl
  · exact .inl rfl

/-- The grant of a port issues the head of its queue (R96, R126). -/
theorem grantPort_cases (p : Port) (tag : IssueTag) (s : State) : grantPort p tag s = s
    ∨ ∃ h ∈ (s.ports.get p).queue, (grantPort p tag s).mem.issueList =
      s.mem.issueList ++ [⟨tag, .port p h.tag, h.kind, h.addr, h.beats, 0, false⟩] := by
  unfold grantPort
  split
  · exact .inl rfl
  · rename_i h rest hqueue
    exact .inr ⟨h, by simp [hqueue], rfl⟩

/-- The grant of RETIRE issues a posted write (R115, R126). -/
theorem grantRetire_cases (tag : IssueTag) (s : State) : grantRetire tag s = s
    ∨ ∃ e : PostedEntry, (grantRetire tag s).mem.issueList =
      s.mem.issueList ++ [⟨tag, .posted, .write, e.addr, e.beats, 0, false⟩] := by
  unfold grantRetire
  split
  · exact .inl rfl
  · exact .inr ⟨_, rfl⟩

/-- The entry is the access of a request that the port holds. -/
def FromQueue (s : State) (p : Port) (e : IssueEntry) : Prop :=
  ∃ h ∈ (s.ports.get p).queue, h.kind = e.kind ∧ h.addr = e.addr ∧ h.beats = e.beats

section
variable {s : State} {e : IssueEntry} {p : Port} {tag : Tag}

/-- An access of a port that a grant issues was held by that port. -/
theorem fromQueue_of_decideGrant {memReady : Bool} (hsource : e.source = .port p tag)
    (hlist : (decideGrant memReady s).mem.issueList = s.mem.issueList ++ [e]) : FromQueue s p e := by
  have hleft {t : State} (h : t = s) : t.mem.issueList ≠ s.mem.issueList ++ [e] := h ▸ (AddsNoIssue.refl s).ne_append e
  obtain hnone | ⟨c, issueTag, -, -, hgrant⟩ := decideGrant_cases memReady s
  · exact absurd hlist (hleft hnone)
  rw [hgrant] at hlist
  cases c with
  | port q =>
    obtain hnone | ⟨h, hmem, hissued⟩ := grantPort_cases q issueTag s
    · exact absurd hlist (hleft hnone)
    · obtain rfl : _ = e := List.singleton_inj.mp (List.append_cancel_left (hissued.symm.trans hlist))
      cases hsource
      exact ⟨h, hmem, rfl, rfl, rfl⟩
  | retire =>
    obtain hnone | ⟨o, hissued⟩ := grantRetire_cases issueTag s
    · exact absurd hlist (hleft hnone)
    · obtain rfl : _ = e := List.singleton_inj.mp (List.append_cancel_left (hissued.symm.trans hlist))
      cases hsource

/-! ### Every step -/

/-- Every event of the part but a grant leaves the issue list no longer than it was. -/
theorem PartEvent.addsNoIssue_or_grant {t : State} (he : PartEvent s t) :
    AddsNoIssue s t ∨ ∃ memReady, t = decideGrant memReady s := by
  cases he with
  | powerOn => exact .inl (.of_nil rfl)
  | pinReset => exact .inl (.of_nil rfl)
  | linkReset p => exact .inl (resetPort_addsNoIssue p s)
  | gateTick => exact .inl (gateTick_addsNoIssue s)
  | windowExpiry => exact .inl (takeOwedWalk_addsNoIssue s)
  | holdLimitExpiry p => exact .inl (expireOne_addsNoIssue p s)
  | checkCompletion => exact .inl (completeCheck_addsNoIssue s)
  | timeout => exact .inl (timeoutTest_addsNoIssue s)
  | pulseEnd => exact .inl (endPulse_addsNoIssue s)
  | memrdyRise => exact .inl (memrdyRises_addsNoIssue s)
  | readyWaitExpiry => exact .inl (expireReadyWait_addsNoIssue s)
  | resetStep => exact .inl (takeResetStep_addsNoIssue s)
  | syncEdge e => exact .inl (seenEdge_addsNoIssue e s)
  | arrival p r => exact .inl (acceptRequest_addsNoIssue p r s)
  | grant memReady => exact .inr ⟨memReady, rfl⟩
  | memoryResponse m => exact .inl (takeResponse_addsNoIssue m s)
  | due => exact .inl (takeDue_addsNoIssue s)
  | clock => exact .inl (countCycle_addsNoIssue s)

/-- A step adds to the issue list by a grant alone (R126, R128). -/
theorem step_addsNoIssue_or_grant {t : State} (ht : step s = .next t) :
    AddsNoIssue s t ∨ ∃ u memReady, Idle s u ∧ t = decideGrant memReady u := by
  cases step_moves ht with
  | idle hi => exact .inl hi.addsNoIssue
  | event before he =>
    exact he.addsNoIssue_or_grant.imp before.addsNoIssue.trans fun ⟨memReady, hgrant⟩ => ⟨_, memReady, before, hgrant⟩
  | command hc before _ after =>
    exact .inl ((before.addsNoIssue.trans (commandRule_addsNoIssue hc _)).trans after.addsNoIssue)

/-- An access of a port that a step issues was held by that port before the step (R96, R126). -/
theorem fromQueue_of_step {t : State} (ht : step s = .next t) (hlist : t.mem.issueList = s.mem.issueList ++ [e])
    (hsource : e.source = .port p tag) : FromQueue s p e := by
  obtain hnone | ⟨u, memReady, hi, rfl⟩ := step_addsNoIssue_or_grant ht
  · exact absurd hlist (hnone.ne_append e)
  · rw [← hi.issueList] at hlist
    obtain ⟨h, hmem, haccess⟩ := fromQueue_of_decideGrant hsource hlist
    exact ⟨h, hi.queue p ▸ hmem, haccess⟩

end

/-- Settles O26: what is issued was held, and a held request lies in a region that admits it (R75, R77). -/
theorem issuesLieInARegion : Obligations.IssuesLieInARegion := by
  intro s t e p tag hlaw ht hlist hsource hw
  obtain ⟨-, -, -, -, -, hheld, -⟩ := hlaw
  obtain ⟨h, hmem, hkind, haddr, hbeats⟩ := fromQueue_of_step ht hlist hsource
  obtain ⟨hregion, -⟩ := hheld hw p h hmem
  rwa [hkind, haddr, hbeats] at hregion

end Sys2Proof.Machine
end

section
/-! SUPPORT. R91 to R96 and R123 to R126: when a contender is eligible and wins, what the grant of a port's head makes of the
part, and that no access of a port is issued in another way. -/

namespace Sys2Proof.Machine

-- One proof at a time, as in the sections before.
set_option Elab.async false

/-! ### Overlap -/

theorem spansOverlap_iff_lt {a b : Addr} {n m : Nat} :
    spansOverlap a n b m = true ↔ a.toNat < b.toNat + 8 * m ∧ b.toNat < a.toNat + 8 * n := by
  have hbytes (k : Nat) : spanBytes k = 8 * k := Nat.mul_comm k 8
  simp only [spansOverlap, Bool.and_eq_true, decide_eq_true_eq, hbytes]

/-- Spans that share a byte overlap by the model's test. -/
theorem spansOverlap_of_shareByte {a b : Addr} {n m : Nat} (h : ShareByte a n b m) : spansOverlap a n b m = true := by
  obtain ⟨x, hax, hxa, hbx, hxb⟩ := h
  exact spansOverlap_iff_lt.mpr ⟨hax.trans_lt hxb, hbx.trans_lt hxa⟩

/-- Two spans of a beat or more overlap exactly when they share a byte: the higher of their first bytes, if any. -/
theorem spansOverlap_iff {a b : Addr} {n m : Nat} (hn : 1 ≤ n) (hm : 1 ≤ m) : spansOverlap a n b m = true ↔ ShareByte a n b m := by
  refine ⟨fun h => ⟨max a.toNat b.toNat, ?_⟩, spansOverlap_of_shareByte⟩
  rw [spansOverlap_iff_lt] at h
  omega

section
variable {s : State} {p : Port} {h : Held} {rest : List Held}

theorem selfOverlap_eq_false_iff : selfOverlap s p h = false ↔
    ∀ e ∈ s.posted, e.port = p → spansOverlap e.addr e.beats h.addr h.beats = false := by
  simp [selfOverlap]

/-- A posted entry that shares a byte with a request of its port overlaps it (R93). -/
theorem not_shareByte_of_selfOverlap (hfree : selfOverlap s p h = false) :
    ∀ e ∈ s.posted, e.port = p → ¬ ShareByte e.addr e.beats h.addr h.beats := by
  intro e he hp hshare
  have hoverlap := selfOverlap_eq_false_iff.mp hfree e he hp
  rw [spansOverlap_of_shareByte hshare] at hoverlap
  cases hoverlap

/-- Requests and posted writes carry a beat or more, so that overlap is the sharing of a byte (R49, R93). -/
theorem selfOverlap_eq_false_iff_shareByte (hrange : RangeLaw s) (hmem : h ∈ (s.ports.get p).queue) :
    selfOverlap s p h = false ↔ ∀ e ∈ s.posted, e.port = p → ¬ ShareByte e.addr e.beats h.addr h.beats := by
  refine ⟨not_shareByte_of_selfOverlap, fun hshare => selfOverlap_eq_false_iff.mpr fun e he hp => ?_⟩
  obtain ⟨-, -, -, hheld, hposted, -⟩ := hrange
  obtain ⟨⟨hbeats, -⟩, -⟩ := hheld p h hmem
  obtain ⟨⟨hbeatsPosted, -⟩, -⟩ := hposted e he
  rw [← Bool.not_eq_true, spansOverlap_iff hbeatsPosted hbeats]
  exact hshare e he hp

/-! ### Eligibility -/

theorem issueRoom_iff (s : State) : issueRoom s = true ↔ s.mem.issueList.length < 16 := decide_eq_true_iff

/-- A head that is eligible overlaps no posted entry of its port (R91, R94). -/
theorem selfOverlap_of_headEligible (hqueue : (s.ports.get p).queue = h :: rest) (he : headEligible s p = true) :
    selfOverlap s p h = false := by
  have hfree {a b : Bool} (hall : (a && !selfOverlap s p h && b) = true) : selfOverlap s p h = false := by
    simp only [Bool.and_eq_true, Bool.not_eq_true'] at hall
    obtain ⟨⟨-, hfree⟩, -⟩ := hall
    exact hfree
  simp only [headEligible, hqueue] at he
  split at he
  · exact hfree he
  · exact hfree he
  · exact hfree he
  · exact hfree he
  · cases he

/-- In RUNNING and HALTING a held request carries its cost under the plan that governs (R82, R88). -/
theorem headCost_of_walking (hheld : HeldLaw s) (hw : walking s = true) (hmem : h ∈ (s.ports.get p).queue) :
    headCost s h = (governing s).overhead + h.beats * (governing s).beatCost := by
  obtain ⟨-, hcost, -⟩ := hheld hw p h hmem
  rw [headCost, hcost, Option.getD_some]

/-- The eligibility of a head is R91's in RUNNING and HALTING and R94's in the other gate states. -/
theorem headEligible_iff (hheld : HeldLaw s) (hrange : RangeLaw s) (p : Port) :
    headEligible s p = true ↔ MayIssue s (.port p) := by
  cases hqueue : (s.ports.get p).queue with
  | nil => simp [headEligible, MayIssue, hqueue]
  | cons h rest =>
    have hmem : h ∈ (s.ports.get p).queue := by simp [hqueue]
    have hoverlap := selfOverlap_eq_false_iff_shareByte hrange hmem
    simp only [MayIssue, HeadMayIssue, headEligible, hqueue, List.head?_cons, Option.mem_def, Option.some.injEq,
      exists_eq_left', true_and, ← hoverlap, ← issueRoom_iff]
    have hfits (hw : walking s = true) : decide (headCost s h ≤ ticksRemaining s) = true ↔
        (governing s).overhead + h.beats * (governing s).beatCost ≤ (currentWindow s).length - s.sched.offset := by
      rw [decide_eq_true_iff, headCost_of_walking hheld hw hmem, ticksRemaining]
    cases hg : s.sched.gate with
    | stopped => simp only [Bool.and_eq_true, Bool.not_eq_true', beq_iff_eq]; tauto
    | armed => simp only [Bool.and_eq_true, Bool.not_eq_true', beq_iff_eq]; tauto
    | running => simp only [Bool.and_eq_true, Bool.not_eq_true', hfits (by simp [walking, hg])]; tauto
    | halting => simp only [Bool.and_eq_true, Bool.not_eq_true', hfits (by simp [walking, hg])]; tauto
    | faulted => simp

/-- An entry is carried unless it was posted under the plan now ACTIVE (R104). -/
theorem isCarried_iff (s : State) (e : PostedEntry) : isCarried s e = true ↔ ¬(e.plan ≠ none ∧ e.plan = activePlan s) := by
  unfold isCarried
  cases e.plan with
  | none => simp
  | some n => simpa using ne_comm

/-- The condition of R112 and R113 on an entry. -/
theorem retireEligible_iff (s : State) (e : PostedEntry) : retireEligible s e = true ↔ EntryMayRetire s e := by
  have hopen : (!quietWindow (currentWindow s)) = true ↔ (currentWindow s).openSet ≠ 0 ∨ (currentWindow s).drain = true := by
    simp [quietWindow, Classical.or_iff_not_imp_left]
  have hfits : decide (planCost (governing s) e.beats ≤ ticksRemaining s) = true ↔
      (governing s).overhead + e.beats * (governing s).beatCost ≤ (currentWindow s).length - s.sched.offset :=
    decide_eq_true_iff
  unfold retireEligible EntryMayRetire
  by_cases hc : isCarried s e = true
  · have hold : ¬(e.plan ≠ none ∧ e.plan = activePlan s) := (isCarried_iff s e).mp hc
    cases s.sched.gate <;> simp only [hc, if_true, if_neg hold, hopen, Bool.false_eq_true]
  · have hcurrent : e.plan ≠ none ∧ e.plan = activePlan s := not_not.mp ((isCarried_iff s e).not.mp hc)
    cases s.sched.gate <;> simp only [hc, if_false, if_pos hcurrent, hfits, Bool.and_eq_true, Bool.or_eq_true, Bool.false_eq_true]

/-- The candidate's place in the buffer is one that meets R111. -/
theorem retireCandidate_isSome_iff (s : State) : (retireCandidate s).isSome = true ↔ MayIssue s .retire := by
  have hroom := issueRoom_iff s
  have holder (older : List PostedEntry) (e : PostedEntry) : (!olderWaiting older e) = true ↔
      ∀ o ∈ older, o.port = e.port → o.state ≠ .waiting := by
    simp [olderWaiting, isWaiting]
  have hmay (e : PostedEntry) (i : Nat) : RetireMayIssue s e i ↔ issueRoom s = true ∧ s.posted[i]? = some e
      ∧ (isWaiting e && !olderWaiting (s.posted.take i) e && retireEligible s e) = true := by
    rw [Bool.and_eq_true, Bool.and_eq_true, holder, retireEligible_iff, hroom, isWaiting, beq_iff_eq]
    unfold RetireMayIssue
    tauto
  have hplace (e : PostedEntry) (i : Nat) : (e, i) ∈ s.posted.zipIdx ↔ s.posted[i]? = some e := List.mk_mem_zipIdx_iff_getElem?
  simp only [retireCandidate, MayIssue, hmay]
  by_cases hr : issueRoom s = true
  · simp only [hr, if_true, retireScan, List.find?_isSome, Prod.exists, hplace, true_and]
    constructor
    · rintro ⟨e, i, hi, he⟩
      exact ⟨i, (List.getElem?_eq_some_iff.mp hi).1, e, hi, hi, he⟩
    · rintro ⟨i, -, e, -, hi, he⟩
      exact ⟨e, i, hi, he⟩
  · simp [hr]

/-- The arbiter's test of a contender is that of Table 7-1. -/
theorem eligible_iff (hheld : HeldLaw s) (hrange : RangeLaw s) (c : Contender) : eligible s c = true ↔ MayIssue s c := by
  cases c with
  | port p => exact headEligible_iff hheld hrange p
  | retire => exact retireCandidate_isSome_iff s

end

/-! ### The winner and the issue tag -/

/-- In a list in order, the first element that passes a test is the least one. -/
theorem find?_eq_some_of_least {α : Type} {r : α → α → Prop} {l : List α} {f : α → Bool} {a : α} (hsorted : l.Pairwise r)
    (hmem : a ∈ l) (ha : f a = true) (hleast : ∀ b, r b a → f b = false) : l.find? f = some a := by
  obtain ⟨before, after, rfl⟩ := List.append_of_mem hmem
  refine List.find?_eq_some_iff_append.mpr ⟨ha, before, after, rfl, fun b hb => ?_⟩
  obtain ⟨-, -, hbefore⟩ := List.pairwise_append.mp hsorted
  rw [hleast b (hbefore b hb a List.mem_cons_self), Bool.not_false]

theorem lookOrder_sorted (last : Contender) : (lookOrder last).Pairwise (fun c d => turn last c < turn last d) := by
  cases last with
  | port p => cases p <;> decide
  | retire => decide

theorem mem_lookOrder (last c : Contender) : c ∈ lookOrder last := by
  rcases last with (_ | _ | _ | _) | _ <;> rcases c with (_ | _ | _ | _) | _ <;> decide

/-- The arbiter grants the contender that R125 names. -/
theorem winner_of_wins {s : State} {c : Contender} (hheld : HeldLaw s) (hrange : RangeLaw s) (h : Wins s c) :
    winner s = some c := by
  obtain ⟨hmay, hfirst⟩ := h
  refine find?_eq_some_of_least (lookOrder_sorted s.lastWinner) (mem_lookOrder _ c)
    ((eligible_iff hheld hrange c).mpr hmay) fun d hd => ?_
  rw [← Bool.not_eq_true, eligible_iff hheld hrange]
  exact fun hmayD => absurd (hfirst d hmayD) (Nat.not_le.mpr hd)

theorem mem_issueTags (t : IssueTag) : t ∈ issueTags := by
  revert t
  decide

/-- The issue is given the lowest tag that no entry holds (R126 step 1). -/
theorem freeTag_of_lowestFree {l : List IssueEntry} {t : IssueTag} (h : LowestFree l t) : freeTag l = some t := by
  obtain ⟨hfree, hlower⟩ := h
  have hsorted : issueTags.Pairwise (· < ·) := by decide
  refine find?_eq_some_of_least hsorted (mem_issueTags t) (by simpa using hfree) fun u hu => ?_
  obtain ⟨e, he, htag⟩ := hlower u hu
  simpa using ⟨e, he, htag⟩

/-! ### The grant -/

/-- The grant of a port's head: what R96 and R126 make of the queue, the issue list and the memory's request channel. -/
theorem grantPort_of_queue {s : State} {p : Port} {h : Held} {rest : List Held} (hqueue : (s.ports.get p).queue = h :: rest)
    (t : IssueTag) : grantPort p t s = { s with
      ports := s.ports.set p { s.ports.get p with queue := rest }
      lastWinner := .port p
      mem := { s.mem with issueList := s.mem.issueList ++ [⟨t, .port p h.tag, h.kind, h.addr, h.beats, 0, false⟩] }
      out := { s.out with issues := s.out.issues ++ [⟨t, h.kind, h.addr, h.beats, h.data⟩] } } := by
  rw [grantPort, hqueue]
  rfl

/-- A memory port that can take an issue takes the winner's, under the free tag (R124 to R126). -/
theorem decideGrant_of_winner {memReady : Bool} {s : State} {c : Contender} {t : IssueTag} (hcan : canIssue s memReady = true)
    (hc : winner s = some c) (ht : freeTag s.mem.issueList = some t) : decideGrant memReady s = grantTo c t s := by
  simp only [decideGrant, hcan, hc, ht, if_true]

/-- Settles O45: the winner of R125 is the contender granted, and its tag the lowest free one. -/
theorem grantIssuesTheHead : Obligations.GrantIssuesTheHead := by
  intro s p h rest t hlaw hout hready hwins hqueue htag
  obtain ⟨-, -, -, -, -, hheld, -, hrange, -, -⟩ := hlaw
  obtain ⟨⟨_, -, -, hroom, -⟩, -⟩ := id hwins
  have hcan : canIssue (quiet s) true = true := by simp [canIssue, hready, (issueRoom_iff (quiet s)).mpr hroom]
  have hwinner : winner (quiet s) = some (.port p) := winner_of_wins (s := quiet s) hheld hrange hwins
  have hgrant : decideGrant true (quiet s) = grantPort p t (quiet s) :=
    decideGrant_of_winner hcan hwinner (freeTag_of_lowestFree htag)
  have hstep : exec (.grant true) s = .next (decideGrant true (quiet s)) := onEvent_of_running hout
  rw [hstep, hgrant, grantPort_of_queue (s := quiet s) hqueue]
  rfl

/-! ### The accesses of a port -/

section
variable {s t : State} {e : IssueEntry} {p : Port} {tag : Tag}

/-- The winner is eligible. -/
theorem eligible_of_winner {c : Contender} (h : winner s = some c) : eligible s c = true := List.find?_some h

/-- The part after the grant of the port's head, which was eligible: the head has left the queue, and the access at the tail
of the issue list is its own (R91, R94, R96, R126). -/
structure HeadIssued (s t : State) (p : Port) (h : Held) (rest : List Held) (e : IssueEntry) : Prop where
  queue : (s.ports.get p).queue = h :: rest
  eligible : headEligible s p = true
  ports : t.ports = s.ports.set p { s.ports.get p with queue := rest }
  access : e = ⟨e.issueTag, .port p h.tag, h.kind, h.addr, h.beats, 0, false⟩

/-- An access of a port that a grant issues is that of the port's head. -/
theorem headIssued_of_decideGrant {memReady : Bool} (hsource : e.source = .port p tag)
    (hlist : (decideGrant memReady s).mem.issueList = s.mem.issueList ++ [e]) :
    ∃ h rest, HeadIssued s (decideGrant memReady s) p h rest e := by
  have hleft {u : State} (h : u = s) : u.mem.issueList ≠ s.mem.issueList ++ [e] := h ▸ (AddsNoIssue.refl s).ne_append e
  obtain hnone | ⟨c, issueTag, hwinner, -, hgrant⟩ := decideGrant_cases memReady s
  · exact absurd hlist (hleft hnone)
  rw [hgrant] at hlist ⊢
  cases c with
  | port q =>
    cases hqueue : (s.ports.get q).queue with
    | nil => exact absurd hlist (hleft (by simp [grantTo, grantPort, hqueue]))
    | cons h rest =>
      have hgranted : grantTo (.port q) issueTag s = _ := grantPort_of_queue hqueue issueTag
      rw [hgranted] at hlist ⊢
      obtain rfl : _ = e := List.singleton_inj.mp (List.append_cancel_left hlist)
      cases hsource
      exact ⟨h, rest, hqueue, eligible_of_winner hwinner, rfl, rfl⟩
  | retire =>
    obtain hnone | ⟨o, hissued⟩ := grantRetire_cases issueTag s
    · exact absurd hlist (hleft hnone)
    · obtain rfl : _ = e := List.singleton_inj.mp (List.append_cancel_left (hissued.symm.trans hlist))
      cases hsource

/-- An update that leaves the part to itself leaves the eligibility of every head. -/
theorem Idle.headEligible (h : Idle s t) (p : Port) : headEligible t p = headEligible s p := by
  have hgoverning : governing t = governing s := governing_of_plans h.plans
  have hwindow : currentWindow t = currentWindow s := by rw [currentWindow, currentWindow, hgoverning, h.sched]
  have hticks : ticksRemaining t = ticksRemaining s := by rw [ticksRemaining, ticksRemaining, hwindow, h.sched]
  have hroom : issueRoom t = issueRoom s := by rw [issueRoom, issueRoom, h.issueList]
  unfold Machine.headEligible
  rw [h.queue p, h.sched]
  cases (s.ports.get p).queue with
  | nil => rfl
  | cons head rest =>
    have hcost : headCost t head = headCost s head := by rw [headCost, headCost, hgoverning]
    have hoverlap : selfOverlap t p head = selfOverlap s p head := by rw [selfOverlap, selfOverlap, h.posted]
    simp only
    rw [hwindow, hcost, hticks, hoverlap, hroom]

/-- Whatever moves the part, an access of a port that it issues is that of the port's head. -/
theorem Moves.headIssued (hm : Moves s t) (hlist : t.mem.issueList = s.mem.issueList ++ [e])
    (hsource : e.source = .port p tag) : ∃ h rest, (s.ports.get p).queue = h :: rest ∧ (t.ports.get p).queue = rest
      ∧ Machine.headEligible s p = true ∧ e = ⟨e.issueTag, .port p h.tag, h.kind, h.addr, h.beats, 0, false⟩ := by
  cases hm with
  | idle hi => exact absurd hlist (hi.addsNoIssue.ne_append e)
  | command hc before _ after =>
    exact absurd hlist (((before.addsNoIssue.trans (commandRule_addsNoIssue hc _)).trans after.addsNoIssue).ne_append e)
  | event before he =>
    obtain hnone | ⟨memReady, rfl⟩ := he.addsNoIssue_or_grant
    · exact absurd hlist ((before.addsNoIssue.trans hnone).ne_append e)
    · rw [← before.issueList] at hlist
      obtain ⟨h, rest, hissued⟩ := headIssued_of_decideGrant hsource hlist
      exact ⟨h, rest, before.queue p ▸ hissued.queue, by rw [hissued.ports, PerPort.get_set_same],
        before.headEligible p ▸ hissued.eligible, hissued.access⟩

end

/-- Settles O23: what is issued is an eligible head, which overlaps no posted entry of its port. -/
theorem nothingIssuedOverAPostedWrite : Obligations.NothingIssuedOverAPostedWrite := by
  intro s t e p tag ht hlist hsource
  obtain ⟨h, rest, hqueue, -, heligible, haccess⟩ := (step_moves ht).headIssued hlist hsource
  rw [haccess]
  exact not_shareByte_of_selfOverlap (selfOverlap_of_headEligible hqueue heligible)

end Sys2Proof.Machine
end

section
/-! SUPPORT. R102 over every command: the hold queues keep their order. Requests leave a queue from any place, and only an
arrival joins one, at its tail. -/

namespace Sys2Proof.Machine

-- One proof at a time, as in the sections before.
set_option Elab.async false

/-! ### Events that requests leave the queues by -/

/-- What a held request carries from its master; cost and deadline are the gate's own (Table 5-1). -/
def heldAccess (h : Held) : Tag × Kind × Addr × Nat × List Beat := (h.tag, h.kind, h.addr, h.beats, h.data)

/-- The accesses a port holds, head first. -/
def heldAccesses (s : State) (p : Port) : List (Tag × Kind × Addr × Nat × List Beat) := (s.ports.get p).queue.map heldAccess

@[simp] theorem heldAccesses_length (s : State) (p : Port) : (heldAccesses s p).length = (s.ports.get p).queue.length :=
  List.length_map _

/-- Of each port some held requests, perhaps none, have left the queue, and the others stand in the order they stood in. -/
def Trims (s t : State) : Prop := ∀ p, (heldAccesses t p).Sublist (heldAccesses s p)

namespace Trims

/-- An update that does not name the ports. -/
theorem same {s t : State} (h : t.ports = s.ports := by rfl) : Trims s t := fun p => by
  rw [heldAccesses, heldAccesses, h]

theorem refl (s : State) : Trims s s := same

theorem trans {s t u : State} (h : Trims s t) (h' : Trims t u) : Trims s u := fun p => (h' p).trans (h p)

/-- Such an update before an event that trims. -/
theorem after_same {s t u : State} (h : Trims t u) (hports : t.ports = s.ports := by rfl) : Trims s u := (same hports).trans h

theorem foldl {α : Type} {f : State → α → State} (h : ∀ a s, Trims s (f s a)) (l : List α) (s : State) :
    Trims s (l.foldl f s) := by
  induction l generalizing s with
  | nil => exact refl s
  | cons a l ih => exact (h a s).trans (ih (f s a))

theorem ite {c : Prop} [Decidable c] {s t u : State} (ht : Trims s t) (hu : Trims s u) : Trims s (if c then t else u) := by
  split <;> assumption

/-- An event of one port, whose queue is a part of what it was. -/
theorem of_port {s t : State} {p : Port} {u : PortUnit} (hports : t.ports = s.ports.set p u)
    (hqueue : u.queue.Sublist (s.ports.get p).queue) : Trims s t := by
  intro q
  rw [heldAccesses, heldAccesses, hports, PerPort.get_set]
  split_ifs with hq
  · exact hq ▸ hqueue.map heldAccess
  · exact .refl _

/-- Queues that are all empty. -/
theorem of_empty {s t : State} (h : ∀ p, (t.ports.get p).queue = []) : Trims s t := fun p => by
  rw [heldAccesses, h]
  exact List.nil_sublist _

end Trims

theorem Idle.heldAccesses {s t : State} (h : Idle s t) (p : Port) : heldAccesses t p = heldAccesses s p := by
  rw [Machine.heldAccesses, h.queue p, Machine.heldAccesses]

theorem Idle.trims {s t : State} (h : Idle s t) : Trims s t := fun p => by rw [h.heldAccesses]

/-! ### The hold queues and the gate -/

theorem clearQueue_trims (st : Status) (p : Port) (s : State) : Trims s (clearQueue st p s) := by
  rw [clearQueue_eq]
  exact .of_port rfl (List.nil_sublist _)

theorem enterStopped_trims (s : State) : Trims s (enterStopped s) := by
  have hcleared (t : State) : Trims t (clearOnStop t) := by
    have hp123 := ((clearQueue_trims .closed .p1 t).trans (clearQueue_trims .closed .p2 _)).trans
      (clearQueue_trims .closed .p3 _)
    exact .ite hp123 (hp123.trans (clearQueue_trims .closed .p0 _))
  exact (hcleared _).after_same

theorem expireOne_trims (p : Port) (s : State) : Trims s (expireOne p s) := by
  unfold expireOne
  split
  · exact .refl s
  · rename_i h _
    refine .of_port (u := { s.ports.get p with
      queue := (s.ports.get p).queue.eraseP expired
      tags := (s.ports.get p).tags.filter (· != h.tag) }) ?_ List.eraseP_sublist
    simp [answer, mapPort, PerPort.set_set]

theorem expireAll_trims (s : State) : Trims s (expireAll s) :=
  .foldl (fun p t => .foldl (fun _ => expireOne_trims p) _ t) _ s

/-- A request that survives plan entry keeps its place, with a new cost and deadline (R88, R102). -/
theorem planEntry_trims (s : State) : Trims s (planEntry s) := by
  intro p
  have hkept : heldAccesses (enteredFrom s) p =
      ((s.ports.get p).queue.filter fun h => (entryRefusal s p h).isNone).map heldAccess := by
    simp [heldAccesses, heldAccess, enteredFrom, entryRecord, Function.comp_def]
  rw [planEntry_eq, hkept]
  exact List.filter_sublist.map heldAccess

theorem tickDeadlines_trims (s : State) : Trims s (tickDeadlines s) := by
  intro p
  have hport : (tickDeadlines s).ports.get p = tickDeadlines.tickUnit (s.ports.get p) := by cases p <;> rfl
  have hheld : heldAccesses (tickDeadlines s) p = heldAccesses s p := by
    simp [heldAccesses, heldAccess, hport, tickDeadlines.tickUnit, tickDeadline, Function.comp_def]
  rw [hheld]

theorem enterRunning_trims (s : State) : Trims s (enterRunning s) := (planEntry_trims _).after_same

theorem makeSwap_trims (s : State) : Trims s (makeSwap s) := by
  unfold makeSwap
  split
  · exact .refl s
  · rw [activate_eq]
    exact ((planEntry_trims _).trans .same).after_same

theorem frameBoundary_trims (s : State) : Trims s (frameBoundary s) :=
  ((makeSwap_trims (nextFrame s)).trans (.ite (enterStopped_trims _) .same)).after_same

theorem takeWalkTick_trims (s : State) : Trims s (takeWalkTick s) := by
  have hexpired (t : State) : Trims t (expireWindow t) := .ite .same (frameBoundary_trims t)
  exact .ite .same (.ite ((hexpired _).after_same) .same)

theorem takeOwedWalk_trims (s : State) : Trims s (takeOwedWalk s) := .ite (takeWalkTick_trims s) (.refl s)

theorem seenEdge_trims (e : SyncEdge) (s : State) : Trims s (seenEdge e s) := by
  have hact (o : SyncOutcome) (t : State) : Trims t (actOnOutcome o t) := by
    cases o with
    | started => exact enterRunning_trims t
    | earlyCut => exact frameBoundary_trims t
    | _ => exact .same
  exact .ite ((hact _ _).after_same) (.refl s)

theorem completeCheck_trims (s : State) : Trims s (completeCheck s) := by
  unfold completeCheck
  split <;> exact .same

/-! ### The memory port -/

/-- A memory failure empties every queue (R99, R143 step 6). -/
theorem memoryFailure_trims (why : FailureKind) (s : State) : Trims s (memoryFailure why s) := by
  have hreset (t : State) : (abandonReset t).ports = t.ports := by
    unfold abandonReset
    split <;> rfl
  refine .of_empty fun p => ?_
  rw [memoryFailure, hreset, enterFaulted, clearOnFault_eq]
  simp [emptied]

theorem timeoutTest_trims (s : State) : Trims s (timeoutTest s) := .ite (memoryFailure_trims _ s) (.refl s)

/-- A completion answers an issued request; the held ones stay (R132, R133). -/
theorem completeEntry_trims (e : IssueEntry) (m : MemResponse) (s : State) : Trims s (completeEntry e m s) := by
  unfold completeEntry
  split
  · exact .ite (.refl s) (.ite (.of_port rfl (.refl _)) (.of_port rfl (.refl _)))
  · exact .same (completePosted_ports_mem _ _ s).1

theorem takeResponse_trims (m : MemResponse) (s : State) : Trims s (takeResponse m s) := by
  unfold takeResponse
  split
  · exact .refl s
  · exact .refl s
  · split
    · exact memoryFailure_trims _ s
    · exact .ite (((completeEntry_trims _ m _).trans (timeoutTest_trims _)).after_same) (memoryFailure_trims _ s)

theorem recoverySucceeds_trims (s : State) : Trims s (recoverySucceeds s) := (enterStopped_trims _).after_same

theorem endPulse_trims (s : State) : Trims s (endPulse s) :=
  .ite (.ite ((recoverySucceeds_trims _).after_same) .same) (.refl s)

theorem memrdyRises_trims (s : State) : Trims s (memrdyRises s) := by
  unfold memrdyRises
  split
  · exact recoverySucceeds_trims s
  · exact .refl s
  · exact .refl s

theorem expireReadyWait_trims (s : State) : Trims s (expireReadyWait s) := .ite .same (.refl s)

/-- A grant takes a head at most (R96). -/
theorem decideGrant_trims (memReady : Bool) (s : State) : Trims s (decideGrant memReady s) := by
  obtain hnone | ⟨c, tag, -, -, hgrant⟩ := decideGrant_cases memReady s
  · exact .same (by rw [hnone])
  rw [hgrant]
  cases c with
  | port p =>
    cases hqueue : (s.ports.get p).queue with
    | nil => exact .same (by simp [grantTo, grantPort, hqueue])
    | cons h rest =>
      rw [grantTo, grantPort_of_queue hqueue]
      exact .of_port rfl (hqueue ▸ List.sublist_cons_self h rest)
  | retire =>
    simp only [grantTo, grantRetire]
    split <;> exact .same

/-! ### The tick, the settings and the resets -/

theorem takeResetStep_trims (s : State) : Trims s (takeResetStep s) := .ite (.same (setDevice_ports _ s)) (.refl s)

theorem takeDue_trims (s : State) : Trims s (takeDue s) :=
  (((((takeOwedWalk_trims s).trans (expireAll_trims _)).trans (completeCheck_trims _)).trans (timeoutTest_trims _)).trans
    ((endPulse_trims _).trans (expireReadyWait_trims _))).trans (takeResetStep_trims _)

theorem gateTick_trims (s : State) : Trims s (gateTick s) := by
  have hdue : Trims s { takeDue s with ticked := 0 } := (takeDue_trims s).trans .same
  have hwalk (t : State) : Trims t (tickWalk t) := .ite .same (takeWalkTick_trims t)
  have hcounts (t : State) : Trims t (tickCheck (tickMemory t)) := .same
  have hdrain (t : State) : Trims t (tickReset t) := .ite .same (.refl t)
  exact (((hdue.trans (hwalk _)).trans (tickDeadlines_trims _)).trans (hcounts _)).trans (hdrain _)

theorem countCycle_trims (s : State) : Trims s (countCycle s) := .ite .same ((gateTick_trims s).trans (takeDue_trims _))

theorem applyDevice_trims (d : Device) (s : State) : Trims s (applyDevice d s) := by
  have hset : Trims s (setDevice d s) := .same (setDevice_ports d s)
  have hcleared := hset.trans
    (.ite (c := (s.device.bootPass && !d.bootPass) = true) (clearQueue_trims .closed .p0 _) (.refl _))
  exact .ite hcleared (hcleared.trans (timeoutTest_trims _))

theorem resetPort_trims (p : Port) (s : State) : Trims s (resetPort p s) := .of_port rfl (List.nil_sublist _)

theorem resetWith_trims (plans : PerPlan Plan) (s : State) : Trims s (resetWith plans s) :=
  .of_empty fun p => by cases p <;> rfl

/-! ### The management commands -/

theorem planWrite_ports (plan : Byte) (change : Option (Plan → Plan)) (s : State) :
    (planWrite plan change s).1.ports = s.ports := by
  unfold planWrite
  split
  · rfl
  · split <;> rfl

/-- The commands that do not reach the gate state do not reach the ports either (R31). -/
theorem commandRule_ports {c : Instr} {rule : State → State × Reply} (hc : commandRule c = some rule)
    (hleaves : leavesTheGate c = true) (s : State) : (rule s).1.ports = s.ports := by
  cases c <;> cases hleaves <;> cases hc
  case status => rfl
  case takeEvents => unfold takeTakeEvents; split <;> rfl
  case readFault =>
    unfold takeReadFault
    split
    · dsimp only
      split <;> rfl
    · rfl
  case readSync => unfold takeReadSync; split <;> rfl
  case readRecoveryReport => rfl
  case setAlerts => unfold takeSetAlerts; split <;> rfl
  case setSync =>
    unfold takeSetSync
    split
    · split_ifs <;> rfl
    · rfl
  case writeWindow => exact planWrite_ports _ _ s
  case setWindowCount => exact planWrite_ports _ _ s
  case writeRegion => exact planWrite_ports _ _ s
  case setRegionCount => exact planWrite_ports _ _ s
  case writePortSettings => exact planWrite_ports _ _ s
  case writeCosts => exact planWrite_ports _ _ s
  case readPlanItem =>
    unfold takeReadPlanItem
    split
    · rfl
    · split <;> rfl
  case copyPlan =>
    simp only [takeCopyPlan]
    split
    · rfl
    · split_ifs <;> rfl
  case checkPlan =>
    simp only [takeCheckPlan]
    split
    · rfl
    · split_ifs <;> rfl

theorem takeSetDevice_trims (d : Byte) (l : BitVec 16) (p b : Byte) (s : State) : Trims s (takeSetDevice d l p b s).1 := by
  unfold takeSetDevice
  split
  · split_ifs
    · exact .same
    · exact .same
    · exact applyDevice_trims _ s
  · exact .same

/-- A swap in STOPPED is made without plan entry, and one in RUNNING waits for the frame boundary (R23, R38). -/
theorem takeRequestSwap_trims (plan : Byte) (s : State) : Trims s (takeRequestSwap plan s).1 := by
  unfold takeRequestSwap
  split
  · exact .same
  · split
    · unfold swapStopped
      rw [activate_eq]
      split_ifs <;> exact .same
    · unfold swapRunning
      split_ifs <;> exact .same
    · exact .same
    · exact .same
    · exact .same

theorem takeStart_trims (mode : Byte) (s : State) : Trims s (takeStart mode s).1 := by
  unfold takeStart
  split_ifs
  · exact .same
  · exact .same
  · exact .same
  · exact enterRunning_trims s
  · exact .same
  · exact .same

theorem takeHalt_trims (s : State) : Trims s (takeHalt s).1 := by
  unfold takeHalt
  split
  case h_3 => exact enterStopped_trims s
  all_goals exact .same

theorem takeHaltNow_trims (s : State) : Trims s (takeHaltNow s).1 := by
  have hstop : Trims s (enterStopped (withdrawPending s)) := (enterStopped_trims _).after_same
  unfold takeHaltNow
  split
  · exact hstop
  · exact hstop
  · exact hstop
  · exact .same
  · exact .same

theorem takeResetGate_trims (s : State) : Trims s (takeResetGate s).1 := by
  have hbegin (t : State) : Trims t (beginReset t) := (clearQueue_trims _ _ _).after_same
  unfold takeResetGate
  split
  · exact .same
  · exact .same
  · exact .same
  · exact (enterStopped_trims s).trans (hbegin _)
  · exact hbegin s

/-- The commands of the gate, the settings and the resets. -/
theorem commandRule_trims_of_gate {c : Instr} {rule : State → State × Reply} (hc : commandRule c = some rule)
    (hgate : leavesTheGate c = false) (s : State) : Trims s (rule s).1 := by
  cases c <;> cases hgate <;> cases hc
  case setDevice d l p b => exact takeSetDevice_trims d l p b s
  case requestSwap n => exact takeRequestSwap_trims n s
  case withdrawSwap => exact .same
  case start m => exact takeStart_trims m s
  case halt => exact takeHalt_trims s
  case haltNow => exact takeHaltNow_trims s
  case recover => unfold takeRecover; split_ifs <;> exact .same
  case resetGate => exact takeResetGate_trims s

/-- A management command answers held requests at most. -/
theorem commandRule_trims {c : Instr} {rule : State → State × Reply} (hc : commandRule c = some rule) (s : State) :
    Trims s (rule s).1 := by
  cases hgate : leavesTheGate c with
  | true => exact .same (commandRule_ports hc hgate s)
  | false => exact commandRule_trims_of_gate hc hgate s

/-! ### Every event -/

/-- The request has joined the tail of the port's queue, and the other queues are as they were (R82). -/
def Joins (s t : State) (p : Port) (h : Held) : Prop :=
  ∀ q, heldAccesses t q = heldAccesses s q ++ if q = p then [heldAccess h] else []

theorem joinQueue_joins (p : Port) (r : Request) (s : State) : Joins s (joinQueue p r s) p (heldRecord s p r) := by
  intro q
  simp only [heldAccesses, joinQueue, mapPort, PerPort.get_set]
  split_ifs with hq <;> simp [hq]

/-- An arrival joins its port's queue or leaves the queues as they are (R57, R58). -/
theorem acceptRequest_trims_or_joins (p : Port) (r : Request) (s : State) :
    Trims s (acceptRequest p r s) ∨ ∃ h, Joins s (acceptRequest p r s) p h := by
  have hjoined : ∃ h, Joins s (joinQueue p r s) p h := ⟨_, joinQueue_joins p r s⟩
  unfold acceptRequest acceptUnbroken placeChecked
  split
  · exact .inl .same
  · split
    · exact .inl .same
    · split
      · split
        · exact .inl .same
        · exact .inl .same
        · split
          · exact .inl .same
          · exact .inr hjoined
      · exact .inr hjoined

theorem room_of_portReady {s : State} {p : Port} (h : portReady s p = true) : (s.ports.get p).queue.length < 8 := by
  simp only [portReady, Bool.and_eq_true, decide_eq_true_eq] at h
  obtain ⟨⟨⟨-, hroom⟩, -⟩, -⟩ := h
  exact hroom

/-- What an event makes of the hold queues: requests leave them, or one joins a queue with room (R52, R80). -/
def QueuesMove (s t : State) : Prop := Trims s t ∨ ∃ p h, (heldAccesses s p).length < 8 ∧ Joins s t p h

theorem PartEvent.queuesMove {s t : State} (he : PartEvent s t) : QueuesMove s t := by
  cases he with
  | powerOn => exact .inl (resetWith_trims _ s)
  | pinReset => exact .inl (resetWith_trims _ s)
  | linkReset p => exact .inl (resetPort_trims p s)
  | gateTick => exact .inl (gateTick_trims s)
  | windowExpiry => exact .inl (takeOwedWalk_trims s)
  | holdLimitExpiry p => exact .inl (expireOne_trims p s)
  | checkCompletion => exact .inl (completeCheck_trims s)
  | timeout => exact .inl (timeoutTest_trims s)
  | pulseEnd => exact .inl (endPulse_trims s)
  | memrdyRise => exact .inl (memrdyRises_trims s)
  | readyWaitExpiry => exact .inl (expireReadyWait_trims s)
  | resetStep => exact .inl (takeResetStep_trims s)
  | syncEdge e => exact .inl (seenEdge_trims e s)
  | arrival p r hready =>
    have hroom : (heldAccesses s p).length < 8 := by
      rw [heldAccesses_length]
      exact room_of_portReady hready
    exact (acceptRequest_trims_or_joins p r s).imp_right fun ⟨h, hjoins⟩ => ⟨p, h, hroom, hjoins⟩
  | grant memReady => exact .inl (decideGrant_trims memReady s)
  | memoryResponse m => exact .inl (takeResponse_trims m s)
  | due => exact .inl (takeDue_trims s)
  | clock => exact .inl (countCycle_trims s)

theorem Moves.queuesMove {s t : State} (hm : Moves s t) : QueuesMove s t := by
  cases hm with
  | idle hi => exact .inl hi.trims
  | command hc before _ after => exact .inl ((before.trims.trans (commandRule_trims hc _)).trans after.trims)
  | event before he =>
    refine he.queuesMove.imp before.trims.trans fun ⟨p, h, hroom, hjoins⟩ => ⟨p, h, ?_, fun q => ?_⟩
    · rwa [← before.heldAccesses p]
    · rw [← before.heldAccesses q]
      exact hjoins q

/-- A queue of at most 8 requests keeps its order and its bound (R80, R102). -/
theorem QueuesMove.keepsOrder {s t : State} (h : QueuesMove s t) (p : Port) (hbound : (s.ports.get p).queue.length ≤ 8) :
    (t.ports.get p).queue.length ≤ 8
      ∧ ∃ joined, joined.length ≤ 1 ∧ (heldAccesses t p).Sublist (heldAccesses s p ++ joined) := by
  rw [← heldAccesses_length] at hbound ⊢
  obtain htrims | ⟨q, h, hroom, hjoins⟩ := h
  · exact ⟨(htrims p).length_le.trans hbound, [], Nat.zero_le 1, by simpa using htrims p⟩
  · rw [hjoins p]
    split_ifs with hq
    · exact ⟨by simpa [hq] using hroom, _, le_rfl, .refl _⟩
    · exact ⟨by simpa using hbound, [], Nat.zero_le 1, .refl _⟩

/-- Settles O31: requests leave a queue and an arrival joins its tail, and what is issued is a head. -/
theorem holdQueuesKeepTheirOrder : Obligations.HoldQueuesKeepTheirOrder := by
  intro c s t p hlaw ht
  obtain ⟨hbound, -⟩ := hlaw
  have hmoves : Moves s t := exec_moves c ht
  obtain ⟨hlength, horder⟩ := hmoves.queuesMove.keepsOrder p (hbound p)
  refine ⟨hlength, horder, fun e tag hlist hsource => ?_⟩
  obtain ⟨h, rest, hqueue, hrest, -, haccess⟩ := hmoves.headIssued hlist hsource
  rw [haccess] at hsource ⊢
  cases hsource
  exact ⟨h, rest, hqueue, hrest, rfl, rfl, rfl, rfl⟩

end Sys2Proof.Machine
end

section
/-! SUPPORT. R57, R58, R82, R107 and R108 at an arrival: the posting decision on a WRITE that the checker passes, and what a
request that is posted or held makes of the part. -/

namespace Sys2Proof.Machine

-- One proof at a time, as in the sections before.
set_option Elab.async false

section
variable {p : Port} {r : Request} {s : State}

/-! ### The posting decision -/

/-- The six conditions of R107. -/
theorem mayPost_iff (posting : Bool) : mayPost s p r posting = true ↔ posting = true ∧ (s.ports.get p).queue = []
    ∧ openTo (currentWindow s) p = false
    ∧ s.posted.countP (fun e => decide (e.port = p)) < ((governing s).settings.get p).quota ∧ s.posted.length < 16
    ∧ (governing s).overhead + r.beats * (governing s).beatCost ≤ (governing s).derived.longestRetire.get p := by
  have hcount : postedCount s p = s.posted.countP fun e => decide (e.port = p) := List.countP_eq_length_filter.symm
  simp only [mayPost, hcount, Bool.and_eq_true, List.isEmpty_iff, Bool.not_eq_true', decide_eq_true_eq, and_assoc]
  rfl

theorem placeChecked_posted {posting : Bool} (h : r.kind = .write ∧ mayPost s p r posting = true) :
    placeChecked p r posting s = postWrite p r s := if_pos h

theorem placeChecked_held {posting : Bool} (h : ¬(r.kind = .write ∧ mayPost s p r posting = true)) :
    placeChecked p r posting s = joinQueue p r s := if_neg h

/-! ### The request placed -/

/-- A posted write adds to the buffer, answered at once and with no tag recorded (R108). -/
theorem postWrite_quiet : postWrite p r (quiet s) = { s with
    posted := s.posted ++ [⟨p, r.tag, r.addr, r.beats, r.data, activePlan s, .waiting⟩]
    out := { Outputs.none with responses := Outputs.none.responses.set p [⟨r.tag, .okay, true, none⟩] } } :=
  give_quiet _ { s with posted := s.posted ++ [⟨p, r.tag, r.addr, r.beats, r.data, activePlan s, .waiting⟩] }

/-- A held request joins the tail of its queue, its tag outstanding and no response given (R58). -/
theorem joinQueue_quiet : joinQueue p r (quiet s) = { s with
    ports := s.ports.set p { s.ports.get p with
      queue := (s.ports.get p).queue ++ [heldRecord s p r], tags := (s.ports.get p).tags ++ [r.tag] }
    out := Outputs.none } := rfl

/-- In RUNNING and HALTING a request joins with its cost and its deadline (R82). -/
theorem heldRecord_of_walking (hw : walking s = true) : heldRecord s p r =
    ⟨r.tag, r.kind, r.addr, r.beats, r.data, some ((governing s).overhead + r.beats * (governing s).beatCost),
      if ((governing s).settings.get p).holdLimit = 0 then none else some ((governing s).settings.get p).holdLimit⟩ := by
  simp only [heldRecord, if_pos hw, planCost, deadlineOf]

/-- Under boot pass a request joins with neither (R82). -/
theorem heldRecord_of_not_walking (hw : walking s = false) :
    heldRecord s p r = ⟨r.tag, r.kind, r.addr, r.beats, r.data, none, none⟩ := by
  simp [heldRecord, hw]

/-! ### The acceptance sequence -/

theorem acceptUnbroken_pass {region : Nat} {posting : Bool} (hw : walking s = true)
    (hv : verdict (governing s) p r.kind r.addr r.beats = .pass region posting) :
    acceptUnbroken p r s = placeChecked p r posting s := by
  rw [acceptUnbroken, if_pos hw, hv]

/-- Under boot pass there is no check (R57, R76). -/
theorem acceptUnbroken_of_not_walking (hw : walking s = false) : acceptUnbroken p r s = joinQueue p r s := by
  simp [acceptUnbroken, hw]

theorem walking_of_stopped_or_armed (hg : s.sched.gate = .stopped ∨ s.sched.gate = .armed) : walking s = false := by
  rcases hg with hg | hg <;> simp [walking, hg]

/-- A request that the checker passes is placed by the posting decision (R57, R72). -/
theorem exec_requestArrival_passed {i : Nat} (hlaw : Lawful s) (hreach : ReachesTheChecker s p r)
    (hi : DecidingRegion (governing s) r.addr i) (hright : Grants ((regionAt (governing s) i).rights.get p) r.kind)
    (hcost : (governing s).overhead + r.beats * (governing s).beatCost ≤ (governing s).derived.longestOpen.get p) :
    exec (.requestArrival p r) s = .next (placeChecked p r (regionAt (governing s) i).posting (quiet s)) := by
  obtain ⟨-, -, -, hplan, -, -, -, hrange, -, -⟩ := hlaw
  have ⟨_, _, _, hw, _, hpage, _⟩ := hreach
  have ⟨_, hholds, _⟩ := hi
  have hspan : spanInside (regionAt (governing s) i) r.addr r.beats = true :=
    spanInside_of_holdsByte (planRange_governing hplan hrange hw) hpage hholds
  have hv := verdict_of_grants hspan hi hright
  rw [if_pos hcost] at hv
  rw [exec_requestArrival_checked hreach, acceptUnbroken_pass (s := quiet s) hw hv]

/-- Under boot pass a request that breaks no bus rule is held unchecked (R43, R57, R76). -/
theorem exec_requestArrival_bootPass (hout : s.inReset = false) (hr : r.wellFormed = true) (hready : Ready s p)
    (hg : s.sched.gate = .stopped ∨ s.sched.gate = .armed) (ha : r.addr.toNat % 8 = 0)
    (hpage : r.addr.toNat % 4096 + r.beats * 8 ≤ 4096) (htag : r.tag ∉ (s.ports.get p).tags) :
    exec (.requestArrival p r) s = .next (joinQueue p r (quiet s)) := by
  have hbroken : protocolFault (quiet s) p r = none := (protocolFault_of_span ha hpage).trans (if_neg htag)
  have hnotFaulted : s.sched.gate ≠ .faulted := by rcases hg with hg | hg <;> simp [hg]
  rw [exec_requestArrival_taken hout hr hready, acceptRequest_unbroken (s := quiet s) hnotFaulted hbroken,
    acceptUnbroken_of_not_walking (s := quiet s) (walking_of_stopped_or_armed hg)]

end

/-- Settles O44: the posting decision on a request that the checker passes, and boot pass, which has no check. -/
theorem arrivalPostedOrHeld : Obligations.ArrivalPostedOrHeld := by
  refine ⟨fun p r s i hlaw hreach hi hright hcost => ?_, fun r s hout hr hready hg ha hpage htag => ?_⟩
  · intro cost hold posts
    have ⟨_, _, _, hw, _⟩ := hreach
    have hposts : r.kind = .write ∧ mayPost (quiet s) p r (regionAt (governing s) i).posting = true ↔ posts :=
      and_congr_right' (mayPost_iff _)
    rw [exec_requestArrival_passed hlaw hreach hi hright hcost]
    refine ⟨fun h => ?_, fun h => ?_⟩
    · rw [placeChecked_posted (hposts.mpr h), postWrite_quiet]
    · rw [placeChecked_held (mt hposts.mp h), joinQueue_quiet, heldRecord_of_walking hw]
  · rw [exec_requestArrival_bootPass hout hr hready hg ha hpage htag, joinQueue_quiet,
      heldRecord_of_not_walking (walking_of_stopped_or_armed hg)]
    rfl

end Sys2Proof.Machine
end

section
/-! SUPPORT. R121: the posted-write buffer keeps its order and its bound. Writes leave it from any place, an arrival posts one
at the tail, and the grant of RETIRE issues the oldest WAITING write of a port. -/

namespace Sys2Proof.Machine

-- One proof at a time, as in the sections before.
set_option Elab.async false

/-! ### Events that posted writes leave the buffer by -/

/-- What a posted write carries from its master, its data apart; posting plan and state are the gate's own (Table 6-1). -/
def postedAccess (e : PostedEntry) : Port × Tag × Addr × Nat := (e.port, e.tag, e.addr, e.beats)

/-- The accesses of the buffer, oldest first. -/
def postedAccesses (s : State) : List (Port × Tag × Addr × Nat) := s.posted.map postedAccess

@[simp] theorem postedAccesses_length (s : State) : (postedAccesses s).length = s.posted.length := List.length_map _

/-- Some posted writes, perhaps none, have left the buffer, and the others stand in the order they stood in. -/
def Frees (s t : State) : Prop := (postedAccesses t).Sublist (postedAccesses s)

namespace Frees

/-- The buffer holds the same accesses, whatever their posting plans and states. -/
theorem of_eq {s t : State} (h : postedAccesses t = postedAccesses s) : Frees s t := by
  rw [Frees, h]

/-- An update that does not name the buffer. -/
theorem same {s t : State} (h : t.posted = s.posted := by rfl) : Frees s t := .of_eq (congrArg (List.map postedAccess) h)

theorem refl (s : State) : Frees s s := same

theorem trans {s t u : State} (h : Frees s t) (h' : Frees t u) : Frees s u := List.Sublist.trans h' h

/-- Such an update before an event that frees. -/
theorem after_same {s t u : State} (h : Frees t u) (hposted : t.posted = s.posted := by rfl) : Frees s u :=
  (same hposted).trans h

theorem foldl {α : Type} {f : State → α → State} (h : ∀ a s, Frees s (f s a)) (l : List α) (s : State) :
    Frees s (l.foldl f s) := by
  induction l generalizing s with
  | nil => exact refl s
  | cons a l ih => exact (h a s).trans (ih (f s a))

theorem ite {c : Prop} [Decidable c] {s t u : State} (ht : Frees s t) (hu : Frees s u) : Frees s (if c then t else u) := by
  split <;> assumption

/-- Entries that leave the buffer from any place. -/
theorem of_sublist {s t : State} (h : t.posted.Sublist s.posted) : Frees s t := h.map postedAccess

end Frees

theorem Idle.frees {s t : State} (h : Idle s t) : Frees s t := .same h.posted

/-! ### The hold queues and the gate -/

theorem clearQueue_frees (st : Status) (p : Port) (s : State) : Frees s (clearQueue st p s) := by
  rw [clearQueue_eq]; exact .same

theorem enterStopped_frees (s : State) : Frees s (enterStopped s) := by
  rw [enterStopped_eq]; exact .same

theorem enterFaulted_frees (s : State) : Frees s (enterFaulted s) := by
  rw [enterFaulted, clearOnFault_eq]; exact .same

theorem planEntry_frees (s : State) : Frees s (planEntry s) := by
  rw [planEntry_eq]; exact .same

theorem enterRunning_frees (s : State) : Frees s (enterRunning s) := (planEntry_frees _).after_same

theorem expireOne_frees (p : Port) (s : State) : Frees s (expireOne p s) := by
  unfold expireOne
  split <;> exact .same

theorem expireAll_frees (s : State) : Frees s (expireAll s) :=
  .foldl (fun p t => .foldl (fun _ => expireOne_frees p) _ t) _ s

/-- A plan that leaves ACTIVE carries its entries, which keep their places (R110). -/
theorem activate_frees (n : PlanName) (s : State) : Frees s (activate n s) := by
  refine .of_eq ?_
  rw [activate_eq, postedAccesses, swappedTo, List.map_map]
  refine List.map_congr_left fun e _ => ?_
  simp only [Function.comp_apply]
  split <;> rfl

theorem makeSwap_frees (s : State) : Frees s (makeSwap s) := by
  unfold makeSwap
  split
  · exact .refl s
  · have hraised (k : EventKind) (t : State) : Frees t (raise k t) := .same
    exact (((activate_frees _ _).trans (planEntry_frees _)).trans (hraised _ _)).after_same

theorem frameBoundary_frees (s : State) : Frees s (frameBoundary s) :=
  ((makeSwap_frees (nextFrame s)).trans (.ite (enterStopped_frees _) .same)).after_same

theorem takeWalkTick_frees (s : State) : Frees s (takeWalkTick s) := by
  have hexpired (t : State) : Frees t (expireWindow t) := .ite .same (frameBoundary_frees t)
  exact .ite .same (.ite ((hexpired _).after_same) .same)

theorem takeOwedWalk_frees (s : State) : Frees s (takeOwedWalk s) := .ite (takeWalkTick_frees s) (.refl s)

theorem seenEdge_frees (e : SyncEdge) (s : State) : Frees s (seenEdge e s) := by
  have hact (o : SyncOutcome) (t : State) : Frees t (actOnOutcome o t) := by
    cases o with
    | started => exact enterRunning_frees t
    | earlyCut => exact frameBoundary_frees t
    | _ => exact .same
  exact .ite ((hact _ _).after_same) (.refl s)

theorem completeCheck_frees (s : State) : Frees s (completeCheck s) := by
  unfold completeCheck
  split <;> exact .same

/-! ### The memory port -/

/-- A memory failure loses the IN_FLIGHT entries and keeps the WAITING ones (R118). -/
theorem abandonPosted_frees (s : State) : Frees s (abandonPosted s) := by
  have hkept : Frees s { s with posted := s.posted.filter isWaiting } := .of_sublist List.filter_sublist
  exact hkept.trans (.foldl (fun _ _ => .same) _ _)

theorem memoryFailure_frees (why : FailureKind) (s : State) : Frees s (memoryFailure why s) := by
  have hissue (e : IssueEntry) (t : State) : Frees t (abandonIssue t e) := by
    unfold abandonIssue
    split <;> exact .same
  have hreset (t : State) : Frees t (abandonReset t) := .ite .same (.refl t)
  have hlost : Frees s (s.mem.issueList.foldl abandonIssue
      (abandonPosted { s with mem := { s.mem with state := .failed } })) :=
    ((abandonPosted_frees _).trans (.foldl hissue _ _)).after_same
  exact hlost.trans (((enterFaulted_frees _).trans (hreset _)).after_same)

theorem timeoutTest_frees (s : State) : Frees s (timeoutTest s) := .ite (memoryFailure_frees _ s) (.refl s)

/-- The completion of a posted write frees its entry (R116, R117). -/
theorem completePosted_frees (t : IssueTag) (ok : Bool) (s : State) : Frees s (completePosted t ok s) := by
  have hfreed : Frees s { s with posted := s.posted.eraseP (inFlightAs t) } := .of_sublist List.eraseP_sublist
  unfold completePosted
  split
  · exact .refl s
  · exact .ite hfreed (hfreed.trans .same)

theorem completeEntry_frees (e : IssueEntry) (m : MemResponse) (s : State) : Frees s (completeEntry e m s) := by
  unfold completeEntry
  split
  · exact .ite (.refl s) (.ite .same .same)
  · exact completePosted_frees _ _ s

theorem takeResponse_frees (m : MemResponse) (s : State) : Frees s (takeResponse m s) := by
  unfold takeResponse
  split
  · exact .refl s
  · exact .refl s
  · split
    · exact memoryFailure_frees _ s
    · exact .ite (((completeEntry_frees _ m _).trans (timeoutTest_frees _)).after_same) (memoryFailure_frees _ s)

theorem recoverySucceeds_frees (s : State) : Frees s (recoverySucceeds s) := (enterStopped_frees _).after_same

theorem endPulse_frees (s : State) : Frees s (endPulse s) :=
  .ite (.ite ((recoverySucceeds_frees _).after_same) .same) (.refl s)

theorem memrdyRises_frees (s : State) : Frees s (memrdyRises s) := by
  unfold memrdyRises
  split
  · exact recoverySucceeds_frees s
  · exact .refl s
  · exact .refl s

theorem expireReadyWait_frees (s : State) : Frees s (expireReadyWait s) := .ite .same (.refl s)

/-! ### The tick, the settings and the resets -/

theorem setDevice_posted (d : Device) (s : State) : (setDevice d s).posted = s.posted := by
  unfold setDevice restartTick
  split <;> rfl

theorem takeResetStep_frees (s : State) : Frees s (takeResetStep s) := .ite (.same (setDevice_posted _ s)) (.refl s)

theorem takeDue_frees (s : State) : Frees s (takeDue s) :=
  (((((takeOwedWalk_frees s).trans (expireAll_frees _)).trans (completeCheck_frees _)).trans (timeoutTest_frees _)).trans
    ((endPulse_frees _).trans (expireReadyWait_frees _))).trans (takeResetStep_frees _)

theorem gateTick_frees (s : State) : Frees s (gateTick s) := by
  have hdue : Frees s { takeDue s with ticked := 0 } := (takeDue_frees s).trans .same
  have hwalk (t : State) : Frees t (tickWalk t) := .ite .same (takeWalkTick_frees t)
  have hcounts (t : State) : Frees t (tickCheck (tickMemory (tickDeadlines t))) := .same
  have hdrain (t : State) : Frees t (tickReset t) := .ite .same (.refl t)
  exact ((hdue.trans (hwalk _)).trans (hcounts _)).trans (hdrain _)

theorem countCycle_frees (s : State) : Frees s (countCycle s) := .ite .same ((gateTick_frees s).trans (takeDue_frees _))

theorem applyDevice_frees (d : Device) (s : State) : Frees s (applyDevice d s) := by
  have hset : Frees s (setDevice d s) := .same (setDevice_posted d s)
  have hcleared := hset.trans
    (.ite (c := (s.device.bootPass && !d.bootPass) = true) (clearQueue_frees .closed .p0 _) (.refl _))
  exact .ite hcleared (hcleared.trans (timeoutTest_frees _))

/-- A reset of the part empties the buffer (R119). -/
theorem resetWith_frees (plans : PerPlan Plan) (s : State) : Frees s (resetWith plans s) := List.nil_sublist _

/-! ### The management commands -/

theorem planWrite_frees (plan : Byte) (change : Option (Plan → Plan)) (s : State) : Frees s (planWrite plan change s).1 := by
  unfold planWrite
  split
  · exact .same
  · split <;> exact .same

theorem takeRequestSwap_frees (plan : Byte) (s : State) : Frees s (takeRequestSwap plan s).1 := by
  unfold takeRequestSwap
  split
  · exact .same
  · split
    · unfold swapStopped
      split_ifs
      · exact (activate_frees _ s).trans .same
      · exact .same
    · unfold swapRunning
      split_ifs <;> exact .same
    · exact .same
    · exact .same
    · exact .same

theorem takeSetDevice_frees (d : Byte) (l : BitVec 16) (p b : Byte) (s : State) : Frees s (takeSetDevice d l p b s).1 := by
  unfold takeSetDevice
  split
  · split_ifs
    · exact .same
    · exact .same
    · exact applyDevice_frees _ s
  · exact .same

theorem takeStart_frees (mode : Byte) (s : State) : Frees s (takeStart mode s).1 := by
  unfold takeStart
  split_ifs
  · exact .same
  · exact .same
  · exact .same
  · exact enterRunning_frees s
  · exact .same
  · exact .same

theorem takeHalt_frees (s : State) : Frees s (takeHalt s).1 := by
  unfold takeHalt
  split
  case h_3 => exact enterStopped_frees s
  all_goals exact .same

theorem takeHaltNow_frees (s : State) : Frees s (takeHaltNow s).1 := by
  have hstop : Frees s (enterStopped (withdrawPending s)) := (enterStopped_frees _).after_same
  unfold takeHaltNow
  split
  · exact hstop
  · exact hstop
  · exact hstop
  · exact .same
  · exact .same

theorem takeResetGate_frees (s : State) : Frees s (takeResetGate s).1 := by
  have hbegin (t : State) : Frees t (beginReset t) := (clearQueue_frees _ _ _).after_same
  unfold takeResetGate
  split
  · exact .same
  · exact .same
  · exact .same
  · exact (enterStopped_frees s).trans (hbegin _)
  · exact hbegin s

/-- No management command posts a write. -/
theorem commandRule_frees {c : Instr} {rule : State → State × Reply} (hc : commandRule c = some rule) (s : State) :
    Frees s (rule s).1 := by
  cases c <;> cases hc
  case status => exact .same
  case takeEvents => unfold takeTakeEvents; split <;> exact .same
  case readFault =>
    unfold takeReadFault
    split
    · exact .ite .same .same
    · exact .same
  case readSync => unfold takeReadSync; split <;> exact .same
  case readRecoveryReport => exact .same
  case setAlerts => unfold takeSetAlerts; split <;> exact .same
  case setDevice d l p b => exact takeSetDevice_frees d l p b s
  case setSync =>
    unfold takeSetSync
    split
    · split_ifs <;> exact .same
    · exact .same
  case writeWindow => exact planWrite_frees _ _ s
  case setWindowCount => exact planWrite_frees _ _ s
  case writeRegion => exact planWrite_frees _ _ s
  case setRegionCount => exact planWrite_frees _ _ s
  case writePortSettings => exact planWrite_frees _ _ s
  case writeCosts => exact planWrite_frees _ _ s
  case readPlanItem =>
    unfold takeReadPlanItem
    split
    · exact .same
    · split <;> exact .same
  case copyPlan =>
    simp only [takeCopyPlan]
    split
    · exact .same
    · split_ifs <;> exact .same
  case checkPlan =>
    simp only [takeCheckPlan]
    split
    · exact .same
    · split_ifs <;> exact .same
  case requestSwap n => exact takeRequestSwap_frees n s
  case withdrawSwap => exact .same
  case start m => exact takeStart_frees m s
  case halt => exact takeHalt_frees s
  case haltNow => exact takeHaltNow_frees s
  case recover => unfold takeRecover; split_ifs <;> exact .same
  case resetGate => exact takeResetGate_frees s

/-! ### The grant of RETIRE -/

/-- The retire candidate is WAITING, and no older entry of its port is (R111 (a), (b)). -/
theorem retireCandidate_place {s : State} {o : PostedEntry} {i : Nat} (h : retireCandidate s = some (o, i)) :
    s.posted[i]? = some o ∧ o.state = .waiting ∧ ∀ w ∈ s.posted.take i, w.port = o.port → w.state ≠ .waiting := by
  have hscan : retireScan s = some (o, i) := by
    unfold retireCandidate at h
    split at h
    · exact h
    · cases h
  have hmeets := List.find?_some hscan
  simp only [isWaiting, olderWaiting, Bool.and_eq_true, Bool.not_eq_true', beq_iff_eq, List.any_eq_false, not_and] at hmeets
  obtain ⟨⟨hwaiting, holdest⟩, -⟩ := hmeets
  exact ⟨List.mk_mem_zipIdx_iff_getElem?.mp (List.mem_of_find?_eq_some hscan), hwaiting, holdest⟩

/-- The part after the grant of RETIRE: the oldest WAITING entry of a port is IN_FLIGHT in its place, and the access at the
tail of the issue list is its own (R111, R115, R126). -/
structure WriteIssued (s t : State) (older : List PostedEntry) (o : PostedEntry) (younger : List PostedEntry)
    (e : IssueEntry) : Prop where
  buffer : s.posted = older ++ o :: younger
  waiting : o.state = .waiting
  oldest : ∀ w ∈ older, w.port = o.port → w.state ≠ .waiting
  inFlight : t.posted = older ++ { o with state := .inFlight e.issueTag } :: younger
  access : e = ⟨e.issueTag, .posted, .write, o.addr, o.beats, 0, false⟩
  issued : t.mem.issueList = s.mem.issueList ++ [e]

/-- An entry that becomes IN_FLIGHT stays in its place. -/
theorem WriteIssued.frees {s t : State} {older younger : List PostedEntry} {o : PostedEntry} {e : IssueEntry}
    (h : WriteIssued s t older o younger e) : Frees s t :=
  .of_eq (by simp [postedAccesses, h.buffer, h.inFlight, postedAccess])

/-- The grant of RETIRE grants nothing, or issues the candidate. -/
theorem grantRetire_writeIssued (tag : IssueTag) (s : State) : grantRetire tag s = s
    ∨ ∃ older o younger e, WriteIssued s (grantRetire tag s) older o younger e := by
  unfold grantRetire
  split
  · exact .inl rfl
  · rename_i o i hcandidate
    obtain ⟨hplace, hwaiting, holdest⟩ := retireCandidate_place hcandidate
    obtain ⟨hi, hget⟩ := List.getElem?_eq_some_iff.mp hplace
    have hbuffer : s.posted = s.posted.take i ++ o :: s.posted.drop (i + 1) := by
      rw [← hget, List.getElem_cons_drop, List.take_append_drop]
    exact .inr ⟨s.posted.take i, o, s.posted.drop (i + 1), ⟨tag, .posted, .write, o.addr, o.beats, 0, false⟩,
      hbuffer, hwaiting, holdest, List.set_eq_take_append_cons_drop.trans (if_pos hi), rfl, rfl⟩

/-- A grant moves a held request, or makes a posted write IN_FLIGHT in its place (R96, R115). -/
theorem decideGrant_frees (memReady : Bool) (s : State) : Frees s (decideGrant memReady s) := by
  obtain hnone | ⟨c, tag, -, -, hgrant⟩ := decideGrant_cases memReady s
  · exact .same (by rw [hnone])
  rw [hgrant]
  cases c with
  | port p =>
    simp only [grantTo, grantPort]
    split <;> exact .same
  | retire =>
    obtain hnone | ⟨_, _, _, _, hissued⟩ := grantRetire_writeIssued tag s
    · exact .same (congrArg State.posted hnone)
    · exact hissued.frees

section
variable {s t : State} {e : IssueEntry}

/-- An access of the buffer that a grant issues is that of the oldest WAITING entry of its port. -/
theorem writeIssued_of_decideGrant {memReady : Bool} (hsource : e.source = .posted)
    (hlist : (decideGrant memReady s).mem.issueList = s.mem.issueList ++ [e]) :
    ∃ older o younger, WriteIssued s (decideGrant memReady s) older o younger e := by
  have hleft {u : State} (h : u = s) : u.mem.issueList ≠ s.mem.issueList ++ [e] := h ▸ (AddsNoIssue.refl s).ne_append e
  obtain hnone | ⟨c, tag, -, -, hgrant⟩ := decideGrant_cases memReady s
  · exact absurd hlist (hleft hnone)
  rw [hgrant] at hlist ⊢
  cases c with
  | port p =>
    obtain hnone | ⟨h, -, hissued⟩ := grantPort_cases p tag s
    · exact absurd hlist (hleft hnone)
    · obtain rfl : _ = e := List.singleton_inj.mp (List.append_cancel_left (hissued.symm.trans hlist))
      cases hsource
  | retire =>
    obtain hnone | ⟨older, o, younger, x, hissued⟩ := grantRetire_writeIssued tag s
    · exact absurd hlist (hleft hnone)
    · obtain rfl : x = e := List.singleton_inj.mp (List.append_cancel_left (hissued.issued.symm.trans hlist))
      exact ⟨older, o, younger, hissued⟩

/-- An access of the buffer that a step issues is that of the oldest WAITING entry of its port (R121). -/
theorem writeIssued_of_step (ht : step s = .next t) (hlist : t.mem.issueList = s.mem.issueList ++ [e])
    (hsource : e.source = .posted) : ∃ older o younger, WriteIssued s t older o younger e := by
  obtain hnone | ⟨u, memReady, hi, rfl⟩ := step_addsNoIssue_or_grant ht
  · exact absurd hlist (hnone.ne_append e)
  · rw [← hi.issueList] at hlist
    obtain ⟨older, o, younger, hissued⟩ := writeIssued_of_decideGrant hsource hlist
    exact ⟨older, o, younger, { hissued with
      buffer := hi.posted ▸ hissued.buffer, issued := hi.issueList ▸ hissued.issued }⟩

end

/-! ### Every step -/

/-- The access has joined the tail of the buffer (R108). -/
def Posts (s t : State) (x : Port × Tag × Addr × Nat) : Prop := postedAccesses t = postedAccesses s ++ [x]

/-- What an event makes of the buffer: writes leave it, or one is posted with room for it (R104, R107). -/
def BufferMoves (s t : State) : Prop := Frees s t ∨ s.posted.length < 16 ∧ ∃ x, Posts s t x

/-- A write is posted in a buffer with room alone; every other arrival leaves the buffer as it is (R57, R107). -/
theorem acceptRequest_bufferMoves (p : Port) (r : Request) (s : State) : BufferMoves s (acceptRequest p r s) := by
  have hplaced (posting : Bool) : BufferMoves s (placeChecked p r posting s) := by
    unfold placeChecked
    split
    · rename_i hpost
      obtain ⟨-, hmay⟩ := hpost
      obtain ⟨-, -, -, -, hroom, -⟩ := (mayPost_iff posting).mp hmay
      exact .inr ⟨hroom, (p, r.tag, r.addr, r.beats), List.map_append⟩
    · exact .inl .same
  unfold acceptRequest acceptUnbroken
  split
  · exact .inl .same
  · split
    · exact .inl .same
    · split
      · split
        · exact .inl .same
        · exact .inl .same
        · exact hplaced _
      · exact .inl .same

theorem PartEvent.bufferMoves {s t : State} (he : PartEvent s t) : BufferMoves s t := by
  cases he with
  | powerOn => exact .inl (resetWith_frees _ s)
  | pinReset => exact .inl (resetWith_frees _ s)
  | linkReset p => exact .inl .same
  | gateTick => exact .inl (gateTick_frees s)
  | windowExpiry => exact .inl (takeOwedWalk_frees s)
  | holdLimitExpiry p => exact .inl (expireOne_frees p s)
  | checkCompletion => exact .inl (completeCheck_frees s)
  | timeout => exact .inl (timeoutTest_frees s)
  | pulseEnd => exact .inl (endPulse_frees s)
  | memrdyRise => exact .inl (memrdyRises_frees s)
  | readyWaitExpiry => exact .inl (expireReadyWait_frees s)
  | resetStep => exact .inl (takeResetStep_frees s)
  | syncEdge e => exact .inl (seenEdge_frees e s)
  | arrival p r => exact acceptRequest_bufferMoves p r s
  | grant memReady => exact .inl (decideGrant_frees memReady s)
  | memoryResponse m => exact .inl (takeResponse_frees m s)
  | due => exact .inl (takeDue_frees s)
  | clock => exact .inl (countCycle_frees s)

theorem Moves.bufferMoves {s t : State} (hm : Moves s t) : BufferMoves s t := by
  cases hm with
  | idle hi => exact .inl hi.frees
  | command hc before _ after => exact .inl ((before.frees.trans (commandRule_frees hc _)).trans after.frees)
  | event before he =>
    have hmoves := he.bufferMoves
    simp only [BufferMoves, Frees, Posts, postedAccesses, before.posted] at hmoves
    exact hmoves

/-- A buffer of at most 16 entries keeps its order and its bound (R104, R121). -/
theorem BufferMoves.keepsOrder {s t : State} (h : BufferMoves s t) (hbound : s.posted.length ≤ 16) :
    t.posted.length ≤ 16
      ∧ ∃ posted, posted.length ≤ 1 ∧ (postedAccesses t).Sublist (postedAccesses s ++ posted) := by
  rw [← postedAccesses_length] at hbound ⊢
  obtain hfrees | ⟨hroom, x, hposts⟩ := h
  · exact ⟨(List.Sublist.length_le hfrees).trans hbound, [], Nat.zero_le 1,
      List.Sublist.trans hfrees (List.sublist_append_left _ _)⟩
  · rw [hposts]
    exact ⟨by simpa using hroom, [x], le_rfl, .refl _⟩

/-- Settles O32: writes leave the buffer and an arrival posts at its tail, and what is issued is the oldest of its port. -/
theorem postedWritesKeepTheirOrder : Obligations.PostedWritesKeepTheirOrder := by
  intro s t hlaw ht
  obtain ⟨-, hbound, -⟩ := hlaw
  obtain ⟨hlength, horder⟩ := (step_moves ht).bufferMoves.keepsOrder hbound
  refine ⟨hlength, horder, fun e hlist hsource => ?_⟩
  obtain ⟨older, o, younger, hissued⟩ := writeIssued_of_step ht hlist hsource
  exact ⟨older, o, younger, hissued.buffer, hissued.waiting, hissued.oldest, by rw [hissued.access], by rw [hissued.access],
    e.issueTag, hissued.inFlight⟩

end Sys2Proof.Machine
end

section
/-! SUPPORT. R138: what the memory port's state, and the gate's, say of the accesses that a step issues. -/

namespace Sys2Proof.Machine

-- One proof at a time, as in the sections before.
set_option Elab.async false

section
variable {s t : State} {e : IssueEntry} {p : Port}

theorem Idle.memState (h : Idle s t) : t.mem.state = s.mem.state := by rw [← h.mem]

/-- A memory port that is not READY takes no issue (R124). -/
theorem decideGrant_of_not_ready (memReady : Bool) (h : s.mem.state ≠ .ready) : decideGrant memReady s = s := by
  have hcan : canIssue s memReady = false := by simp [canIssue, h]
  rw [decideGrant, hcan]
  rfl

/-- A step adds to the issue list of a READY memory port alone (R124, R126). -/
theorem ready_of_step (ht : step s = .next t) (hlist : t.mem.issueList = s.mem.issueList ++ [e]) : s.mem.state = .ready := by
  by_contra hready
  obtain hnone | ⟨u, memReady, hi, rfl⟩ := step_addsNoIssue_or_grant ht
  · exact hnone.ne_append e hlist
  · rw [decideGrant_of_not_ready memReady (hi.memState ▸ hready)] at hlist
    exact hi.addsNoIssue.ne_append e hlist

/-- In STOPPED and ARMED only P0's head is eligible (R94). -/
theorem eq_p0_of_headEligible (hgate : s.sched.gate = .stopped ∨ s.sched.gate = .armed) (h : headEligible s p = true) :
    p = .p0 := by
  cases hqueue : (s.ports.get p).queue with
  | nil => simp [headEligible, hqueue] at h
  | cons head rest =>
    obtain hg | hg := hgate <;>
    · simp only [headEligible, hqueue, hg, Bool.and_eq_true, beq_iff_eq] at h
      obtain ⟨⟨hp, -⟩, -⟩ := h
      exact hp

end

/-- Settles O25: the memory port is not READY in FAULTED, and what a port issues is an eligible head. -/
theorem nothingIssuedByAStoppedGate : Obligations.NothingIssuedByAStoppedGate := by
  intro s t e hlaw ht hlist
  obtain ⟨hfaulted, -⟩ := hlaw
  refine ⟨fun hgate => hfaulted.mp hgate (ready_of_step ht hlist), fun hgate p tag hsource => ?_⟩
  obtain ⟨_, _, -, -, heligible, -⟩ := (step_moves ht).headIssued hlist hsource
  exact eq_p0_of_headEligible hgate heligible

end Sys2Proof.Machine
end

section
/-! SUPPORT. A memory failure step by step (R143): the loss of the posted writes, the abandonment of the issued requests, the
count in the report, and the seven steps together. -/

namespace Sys2Proof.Machine

-- One proof at a time, as in the sections before.
set_option Elab.async false

/-- The kinds raised and the faults taken at one event come to the same in either order (R165, R172). -/
theorem eventsWith_faultsTaken (m : BitVec 12) (f : Port → List FaultInfo) (e : EventUnit) :
    eventsWith m (faultsTaken f e) = faultsTaken f (eventsWith m e) := by
  by_cases hf : f = fun _ => []
  · rw [hf, faultsTaken_nil, faultsTaken_nil]
  · rw [faultsTaken_of_some hf, faultsTaken_of_some hf, eventsWith_eventsWith, BitVec.or_comm, ← eventsWith_eventsWith]
    rfl

/-! ### Step 2: the posted writes -/

/-- The faults of a list of lost posted writes, port by port in the order of the list (R117, R118). -/
def lostFaults (reason : FaultReason) (s : State) (l : List PostedEntry) (p : Port) : List FaultInfo :=
  (l.filter (fun e => e.port == p)).map (fun e => faultNow s reason e.tag .write e.addr e.beats)

/-- The part after the loss of a list of posted writes: POSTED_LOST, if there is one, and the faults (R117, R118). -/
def lostFrom (reason : FaultReason) (l : List PostedEntry) (s : State) : State :=
  { s with events := faultsTaken (lostFaults reason s l) (if l.isEmpty then s.events else eventsWith 0x002 s.events) }

theorem lostFaults_cons (reason : FaultReason) (s : State) (e : PostedEntry) (l : List PostedEntry) :
    lostFaults reason s (e :: l) = fun p =>
      faultsOf e.port [faultNow s reason e.tag .write e.addr e.beats] p ++ lostFaults reason s l p := by
  funext p
  by_cases h : p = e.port
  · simp [lostFaults, faultsOf, h]
  · simp [lostFaults, faultsOf, h, Ne.symm h]

theorem loseEntry_eq (reason : FaultReason) (s : State) (e : PostedEntry) : loseEntry reason s e = { s with
    events := faultsTaken (faultsOf e.port [faultNow s reason e.tag .write e.addr e.beats]) (eventsWith 0x002 s.events) } := by
  rw [loseEntry, handFault_eq_faultsTaken]
  rfl

theorem loseEntry_foldl (reason : FaultReason) (l : List PostedEntry) (s : State) :
    l.foldl (loseEntry reason) s = lostFrom reason l s := by
  induction l generalizing s with
  | nil => exact congrArg (fun e => { s with events := e }) (faultsTaken_nil s.events).symm
  | cons e l ih =>
    have hraised (f : Port → List FaultInfo) :
        eventsWith 0x002 (faultsTaken f (eventsWith 0x002 s.events)) = faultsTaken f (eventsWith 0x002 s.events) := by
      rw [eventsWith_faultsTaken, eventsWith_eventsWith, BitVec.or_self]
    rw [List.foldl_cons, ih, loseEntry_eq]
    simp only [lostFrom, lostFaults_cons, ← faultsTaken_faultsTaken, List.isEmpty_cons, Bool.false_eq_true, if_false,
      hraised, ite_self]
    rfl

/-! ### Step 3: the issued requests -/

/-- The requests of a list of issues that a port is owed a response for, oldest first. -/
def owedOf (l : List IssueEntry) (p : Port) : List (Tag × IssueEntry) :=
  l.filterMap (fun e => (owedTag p e).map (fun t => (t, e)))

theorem owedIssues_eq (s : State) (p : Port) : owedIssues s p = owedOf s.mem.issueList p := by
  refine List.filterMap_congr fun e _ => ?_
  cases hsource : e.source with
  | port q t => by_cases h : q = p ∧ e.orphan = false <;> simp [owedTag_port hsource, h]
  | posted => simp [owedTag_posted hsource]

theorem owedOf_append (l m : List IssueEntry) (p : Port) : owedOf (l ++ m) p = owedOf l p ++ owedOf m p :=
  List.filterMap_append

theorem owedOf_singleton {e : IssueEntry} {q : Port} {t : Tag} (howed : owedTo e = some (q, t)) (p : Port) :
    owedOf [e] p = if p = q then [(t, e)] else [] := by
  by_cases h : p = q
  · simp [owedOf, owedTag, howed, h]
  · simp [owedOf, owedTag, howed, h, Ne.symm h]

/-- The faults of the abandoned requests of a list of issues, port by port in the order of the list (R143 step 3). -/
def abandonedFaults (s : State) (l : List IssueEntry) (p : Port) : List FaultInfo :=
  (owedOf l p).map (fun x => faultNow s .memAbandoned x.1 x.2.kind x.2.addr x.2.beats)

/-- The part after the owed requests of a list of issues are answered MEMFAULT, with a fault each (R143 step 3). -/
def abandonedFrom (l : List IssueEntry) (s : State) : State :=
  { s with
    ports := perPort (fun p => { s.ports.get p with tags := tagsWithout (s.ports.get p).tags ((owedOf l p).map (·.1)) })
    events := faultsTaken (abandonedFaults s l) s.events
    out := { s.out with responses := perPort (fun p => s.out.responses.get p
      ++ (owedOf l p).map (fun x => refusalTo .memFault x.1)) } }

theorem abandonedFrom_of_unowed {l : List IssueEntry} (h : ∀ p, owedOf l p = []) (s : State) : abandonedFrom l s = s := by
  have hfaults : abandonedFaults s l = fun _ => [] := funext fun p => by simp [abandonedFaults, h]
  simp only [abandonedFrom, hfaults, h, List.map_nil, tagsWithout_nil, faultsTaken_nil, List.append_nil]
  rfl

/-- Two lists of issues abandoned one after the other are one list abandoned. -/
theorem abandonedFrom_append (l m : List IssueEntry) (s : State) :
    abandonedFrom (l ++ m) s = abandonedFrom m (abandonedFrom l s) := by
  have hfaults : abandonedFaults s (l ++ m) = fun p => abandonedFaults s l p ++ abandonedFaults s m p :=
    funext fun p => by simp [abandonedFaults, owedOf_append]
  simp only [abandonedFrom, hfaults, owedOf_append, perPort_get, ← faultsTaken_faultsTaken, ← tagsWithout_tagsWithout,
    List.map_append, List.append_assoc]
  rfl

theorem abandonIssue_eq (s : State) (e : IssueEntry) : abandonIssue s e = abandonedFrom [e] s := by
  cases howed : owedTo e with
  | none =>
    rw [abandonedFrom_of_unowed fun p => by simp [owedOf, owedTag, howed]]
    simp [abandonIssue, howed]
  | some x =>
    obtain ⟨q, t⟩ := x
    have hone := owedOf_singleton howed
    have hfaults : abandonedFaults s [e] = faultsOf q [faultNow s .memAbandoned t e.kind e.addr e.beats] := by
      funext p
      by_cases h : p = q <;> simp [abandonedFaults, faultsOf, hone, h]
    simp only [abandonIssue, howed, handFault_eq_faultsTaken, answer, mapPort, give, abandonedFrom, hfaults, hone]
    cases q <;> simp [perPort, PerPort.set, PerPort.get, tagsWithout_nil, tagsWithout_singleton, refusalTo]

theorem abandonIssue_foldl (l : List IssueEntry) (s : State) : l.foldl abandonIssue s = abandonedFrom l s := by
  induction l generalizing s with
  | nil => exact (abandonedFrom_of_unowed (fun _ => rfl) s).symm
  | cons e l ih => rw [List.foldl_cons, ih, abandonIssue_eq, ← abandonedFrom_append, List.singleton_append]

/-! ### Step 5: the report -/

/-- The requests answered are those owed to one port or another (R143 step 3, R144). -/
theorem answeredCount_eq (s : State) : answeredCount s = owedCount s := by
  simp only [answeredCount, owedCount, owedIssues_eq]
  induction s.mem.issueList with
  | nil => rfl
  | cons e l ih =>
    cases howed : owedTo e with
    | none => simpa [owedOf, owedTag, howed] using ih
    | some x =>
      obtain ⟨q, t⟩ := x
      have hcons (p : Port) : owedOf (e :: l) p = owedOf [e] p ++ owedOf l p := owedOf_append [e] l p
      simp only [List.filter_cons, howed, Option.isSome_some, if_true, List.length_cons, ih, hcons, owedOf_singleton howed,
        List.length_append]
      cases q <;> simp [allPorts] <;> omega

/-! ### The seven steps -/

/-- An entry to FAULTED (R40, R99). -/
theorem enterFaulted_eq (s : State) : enterFaulted s = { s with
    sched := faultSchedule s.sched
    ports := perPort (fun p => emptied (s.ports.get p))
    out := { s.out with responses := perPort (fun p => s.out.responses.get p ++ queueAnswers .memFault (s.ports.get p)) } } :=
  clearOnFault_eq _

theorem abandonReset_eq (s : State) : abandonReset s = { s with
    link := if s.link.resetting
      then { s.link with resetting := false, resetDue := false, lastResult := .wrongState, lastCode := 0x26 }
      else s.link } := by
  unfold abandonReset
  split <;> rfl

/-- The losses, the abandonments and MEMORY_FAILED in the event unit (R118, R143, R172). -/
theorem failureEvents_eq (s : State) :
    eventsWith 0x004 (faultsTaken (abandonedFaults s s.mem.issueList) (lostFrom .postedAbandoned (inFlightEntries s) s).events)
      = eventsWith (if (inFlightEntries s).isEmpty then 0x004 else 0x006) (faultsTaken (failureFaults s) s.events) := by
  have hfaults : failureFaults s = fun p =>
      lostFaults .postedAbandoned s (inFlightEntries s) p ++ abandonedFaults s s.mem.issueList p :=
    funext fun p => by rw [failureFaults, owedIssues_eq]; rfl
  rw [lostFrom, faultsTaken_faultsTaken, ← hfaults, eventsWith_faultsTaken, eventsWith_faultsTaken]
  split
  · rfl
  · rw [eventsWith_eventsWith]
    rfl

/-- A memory failure is `failedFrom` (R143, R191). -/
theorem memoryFailure_eq (why : FailureKind) (s : State) : memoryFailure why s = failedFrom why s := by
  rw [failedFrom, ← failureEvents_eq]
  simp only [memoryFailure, failureReport, abandonPosted, loseEntry_foldl, abandonIssue_foldl, raise_eq, enterFaulted_eq,
    abandonReset_eq, answeredCount_eq, abandonedFrom, perPort_get, emptied, tagsWithout_tagsWithout, owedIssues_eq]
  rfl

/-! ### What makes the port fail -/

section
variable {s : State} {e : IssueEntry} {rest : List IssueEntry} {m : MemResponse}

/-- The oldest entry has reached the response limit (R141). -/
theorem timeoutTest_of_overdue (hready : s.mem.state = .ready) (hlist : s.mem.issueList = e :: rest)
    (hlimit : 1 ≤ s.device.limit) (hage : s.device.limit ≤ e.age) : timeoutTest s = failedFrom .timeout s := by
  have hover : overdue s = true := by simp [overdue, hready, hlist, hlimit, hage]
  rw [timeoutTest, if_pos hover, memoryFailure_eq]

/-- A response with no entry to complete, or with another tag than the oldest entry's (R142). -/
theorem takeResponse_of_mismatch (hready : s.mem.state = .ready)
    (htag : ∀ e, s.mem.issueList.head? = some e → m.tag ≠ e.issueTag) : takeResponse m s = failedFrom .order s := by
  rw [← memoryFailure_eq]
  unfold takeResponse
  rw [hready]
  cases hlist : s.mem.issueList with
  | nil => rfl
  | cons e rest => exact if_neg (htag e (by rw [hlist]; rfl))

end

/-- Settles O38: a TIMEOUT and an ORDER failure both take the steps of `failedFrom`. -/
theorem memoryFailureTakesItsSteps : Obligations.MemoryFailureTakesItsSteps := by
  refine ⟨fun s e rest hout hready hlist hlimit hage => ?_, fun s m hout hready htag => ?_⟩
  · exact (onEvent_of_running hout).trans
      (congrArg _ (timeoutTest_of_overdue (s := quiet s) hready hlist hlimit hage))
  · exact (onEvent_of_running hout).trans (congrArg _ (takeResponse_of_mismatch (s := quiet s) hready htag))

end Sys2Proof.Machine
end

section
/-! SUPPORT. The frame boundary by its four steps (R30), and SYNC edges in mode ALIGN while the gate walks: the position that
the capture record takes, and the correction that T, L and C decide (R155, R157). -/

namespace Sys2Proof.Machine

/-! ### The frame boundary -/

theorem makeSwap_of_none {s : State} (h : s.sched.pendingSwap = none) : makeSwap s = s := by simp [makeSwap, h]

theorem makeSwap_of_some {s : State} {n : PlanName} (h : s.sched.pendingSwap = some n) : makeSwap s =
    raise .swapDone (enteredFrom (swappedTo n { s with sched := { s.sched with pendingSwap := none } })) := by
  simp [makeSwap, h, activate_eq, planEntry_eq]

/-- A frame boundary is `boundaryFrom` (R30). -/
theorem frameBoundary_eq (s : State) : frameBoundary s = boundaryFrom s := by
  simp only [frameBoundary, enterStopped_eq]
  cases hswap : s.sched.pendingSwap with
  | none =>
    have hmoved : nextFrame s = { s with
        sched := { s.sched with frame := s.sched.frame + 1, window := 0, offset := 0, pendingSwap := none } } := by
      rw [nextFrame, ← hswap]
    rw [makeSwap_of_none (s := nextFrame s) hswap, hmoved, boundaryFrom, hswap]
    rfl
  | some n =>
    rw [makeSwap_of_some (s := nextFrame s) hswap, boundaryFrom, hswap]
    rfl

/-! ### The position at an edge -/

/-- The windows of the records below an index are the first records. -/
theorem windowsBelow_eq_take (p : Plan) {n : Nat} (h : n ≤ 32) : windowsBelow p n = p.windows.toList.take n := by
  refine List.ext_getElem (by simpa [windowsBelow] using h) fun i hi _ => ?_
  have hrecord : i < p.windows.toList.length := by
    simp only [windowsBelow, List.length_map, List.length_range] at hi
    simpa using hi.trans_le h
  simp only [windowsBelow, List.getElem_map, List.getElem_range, List.getElem_take, windowAt, List.getD_eq_getElem _ _ hrecord]

/-- While the gate walks, CHECK finds nothing in the plan that governs it, and its derived values describe it (R6, R21). -/
theorem soundPlan_governing {s : State} (hplan : PlanLaw s) (hw : walking s = true) : SoundPlan (governing s) := by
  obtain ⟨-, -, -, hsound, -, -, -, hactive⟩ := hplan
  obtain ⟨n, hn⟩ := Option.ne_none_iff_exists'.mp (hactive (.inl hw))
  simpa [governing, hn] using hsound n (.inr (activePlan_state hn))

/-- T: the lengths of the windows below the current one, and the offset (R155). -/
theorem frameTicks_eq {s : State} (hplan : PlanRange (governing s)) (hwindow : s.sched.window < (governing s).windowCount) :
    frameTicks s = ((windowsBelow (governing s) s.sched.window).map (·.length)).sum + s.sched.offset := by
  obtain ⟨hcount, -⟩ := hplan
  rw [frameTicks, totalLength, countedWindows, List.take_take, min_eq_left hwindow.le,
    windowsBelow_eq_take _ (hwindow.le.trans hcount)]

/-- L: the lengths of all counted windows (R6, R155). -/
theorem frameLength_governing {s : State} (hplan : PlanLaw s) (hw : walking s = true) :
    (governing s).derived.frameLength = ((windowsBelow (governing s) (governing s).windowCount).map (·.length)).sum := by
  obtain ⟨-, hderived, -⟩ := soundPlan_governing hplan hw
  rw [hderived]
  rfl

/-! ### The outcome from T, L and C -/

section
variable {t l c : Nat}

theorem alignOutcome_inStep (ht : t = 0) : alignOutcome t l c = .inStep := if_pos ht

theorem alignOutcome_earlyCut (ht : t ≠ 0) (hlimit : l - t ≤ c) (hhalf : l - t ≤ t) : alignOutcome t l c = .earlyCut := by
  rw [alignOutcome, if_neg ht, if_pos ⟨hlimit, hhalf⟩]

theorem alignOutcome_lateRewind (ht : t ≠ 0) (hearly : ¬(l - t ≤ c ∧ l - t ≤ t)) (hlate : t ≤ c) :
    alignOutcome t l c = .lateRewind := by
  rw [alignOutcome, if_neg ht, if_neg hearly, if_pos hlate]

theorem alignOutcome_outOfLimit (ht : t ≠ 0) (hearly : ¬(l - t ≤ c ∧ l - t ≤ t)) (hlate : ¬ t ≤ c) :
    alignOutcome t l c = .outOfLimit := by
  rw [alignOutcome, if_neg ht, if_neg hearly, if_neg hlate]

end

/-! ### The edge -/

/-- While the gate walks with mode ALIGN, T, L and C give the outcome (R157, Table 9-1). -/
theorem edgeOutcome_aligned {s : State} (hmode : s.sync.mode = .align) (hw : walking s = true) :
    edgeOutcome s = alignOutcome (frameTicks s) (governing s).derived.frameLength s.sync.limit := by
  have hgate : s.sched.gate = .running ∨ s.sched.gate = .halting := by simpa [walking] using hw
  rcases hgate with hg | hg <;> simp [edgeOutcome, hg, hmode]

/-- In mode ALIGN, while the gate walks, a selected edge captures the outcome of T, L and C and acts on it (R156, R157). -/
theorem seenEdge_aligned {s : State} {o : SyncOutcome} (hmode : s.sync.mode = .align) (hw : walking s = true)
    (ho : alignOutcome (frameTicks s) (governing s).derived.frameLength s.sync.limit = o) :
    seenEdge s.sync.edge s = actOnOutcome o (raise .syncCaptured
      { s with sync := { s.sync with capture := ⟨true, o, some (capturePosition s)⟩ } }) := by
  have houtcome : edgeOutcome s = o := (edgeOutcome_aligned hmode hw).trans ho
  have hcapture : captureOf s = ⟨true, o, some (capturePosition s)⟩ := by rw [captureOf, houtcome, if_pos hw]
  rw [seenEdge, if_pos ⟨by simp [hmode], rfl⟩, selectedEdge, houtcome, hcapture]

/-- The part with an edge captured while the gate walks, before its outcome is acted on (R155, R156). -/
def edgeCaptured (outcome : SyncOutcome) (s : State) : State :=
  { s with
    sync := { s.sync with
      level := decide (s.sync.edge = .rising)
      capture := ⟨true, outcome, some (capturePosition s)⟩ }
    events := eventsWith 0x080 s.events
    out := Outputs.none }

theorem exec_syncEdge_aligned {s : State} {o : SyncOutcome} (hout : s.inReset = false) (hmode : s.sync.mode = .align)
    (hw : walking s = true) (ho : alignOutcome (frameTicks s) (governing s).derived.frameLength s.sync.limit = o) :
    exec (.syncEdge s.sync.edge) s = .next (actOnOutcome o (edgeCaptured o s)) := by
  have hseen := seenEdge_aligned (s := quiet (setSyncLevel s.sync.edge s)) hmode hw ho
  exact (onEvent_of_running (s := setSyncLevel s.sync.edge s) hout).trans (congrArg _ hseen)

/-- Settles O41: T and L are those of the capture record, and each outcome is acted on as its rule says. -/
theorem alignedEdgeCorrectsTheWalk : Obligations.AlignedEdgeCorrectsTheWalk := by
  intro s hout hlaw hmode hw
  obtain ⟨-, -, -, hplan, ⟨hposition, -⟩, -, -, hrange, -⟩ := hlaw
  rw [← frameTicks_eq (planRange_governing hplan hrange hw) (hposition hw).1, ← frameLength_governing hplan hw]
  have hedge {o : SyncOutcome} := exec_syncEdge_aligned (o := o) hout hmode hw
  refine ⟨fun ht => ?_, fun ht hlimit hhalf => ?_, fun ht hearly hlate => ?_, fun ht hearly hlate => ?_⟩
  · exact hedge (alignOutcome_inStep ht)
  · rw [← frameBoundary_eq]
    exact hedge (alignOutcome_earlyCut ht hlimit hhalf)
  · exact hedge (alignOutcome_lateRewind ht hearly hlate)
  · refine (hedge (alignOutcome_outOfLimit ht hearly hlate)).trans (congrArg _ ?_)
    rw [actOnOutcome, raise_eq, edgeCaptured, eventsWith_eventsWith]
    rfl

end Sys2Proof.Machine
end

section
/-! SUPPORT. The commands that read as steps of the link: the reply that each rule gives, and the answer with its data. -/

namespace Sys2Proof.Machine

/-! ### A command answered with data -/

/-- A management command sent with no RESET GATE in progress: its rule is run on the part with the frame received, which it
leaves, and its reply is answered, with 0x00 bytes for data unless the result is DONE (R178). -/
theorem commandStep_replied {c : Instr} {code : Byte} {operands : List Byte} {rule : State → State × Reply} {s t : State}
    {reply : Reply} (hc : encodeFrame c = some (code :: operands)) (hopen : Open c s) (hcode : code ≠ statusCode)
    (hrule : rule (receiveFrame (code :: operands) (quiet s)) = (receiveFrame (code :: operands) t, reply)) :
    commandStep c rule s = .next (answered code reply.result (replyData code reply) t) := by
  have hidle : (receiveFrame (code :: operands) (quiet s)).link.resetting = false := hopen.2
  rw [commandStep_of_sendable hc hopen.1, takeCommand_of_open hidle, hrule, answerCommand, if_neg hcode]
  rfl

/-- A command refused BAD_ARG leaves all but the answer as it was, whose data field is 0x00 bytes (R178). -/
theorem commandStep_badArg {c : Instr} {code : Byte} {operands : List Byte} {rule : State → State × Reply} {s : State}
    (hc : encodeFrame c = some (code :: operands)) (hopen : Open c s) (hcode : code ≠ statusCode)
    (hrule : ∀ t : State, rule t = refuse .badArg t) :
    commandStep c rule s =
      .next (answered code .badArg (List.replicate (dataLength code) 0x00) { s with out := Outputs.none }) :=
  commandStep_replied (t := quiet s) hc hopen hcode (hrule _)

/-! ### Operands -/

theorem flagOf_take (take : Bool) : flagOf (if take then 0x01 else 0x00) = some take := by cases take <;> rfl

theorem flagOf_of_gt {b : Byte} (h : 1 < b.toNat) : flagOf b = none := by
  unfold flagOf
  split_ifs with h0 h1
  · simp [h0] at h
  · simp [h1] at h
  · rfl

/-- The item selector or the index is beyond Table 11-7 (R187). -/
def ItemOutOfRange (item index : Byte) : Prop :=
  5 < item.toNat ∨ (item = 0 ∧ 31 < index.toNat) ∨ (item = 1 ∧ 15 < index.toNat) ∨ (item = 2 ∧ 3 < index.toNat)
    ∨ (3 ≤ item.toNat ∧ index ≠ 0)

theorem planItem_of_outOfRange {item index : Byte} (h : ItemOutOfRange item index) (s : State) (n : PlanName) :
    planItem s n item index = none := by
  unfold ItemOutOfRange at h
  unfold planItem
  split
  case h_1 => exact if_neg (by simp only [Config.windowRecords]; bv_omega)
  case h_2 => exact if_neg (by simp only [Config.regionRecords]; bv_omega)
  case h_3 => rw [portOf_of_gt (by bv_omega)]; rfl
  case h_4 => exact if_neg (by bv_omega)
  case h_5 => exact if_neg (by bv_omega)
  case h_6 => exact if_neg (by bv_omega)
  case h_7 => rfl

/-! ### The rules -/

/-- The part after a READ FAULT of a port, which empties the record with take (R174). -/
def faultRead (p : Port) (take : Bool) (s : State) : State :=
  { s with events := { s.events with faults := if take then s.events.faults.set p ⟨none, 0⟩ else s.events.faults } }

theorem takeReadFault_taken (p : Port) (take : Bool) (s : State) :
    takeReadFault (portByte p) (if take then 0x01 else 0x00) s =
      (faultRead p take s, ⟨.done, faultData (s.events.faults.get p)⟩) := by
  rw [takeReadFault, portOf_portByte, flagOf_take]
  cases take <;> rfl

theorem takeReadFault_badArg {port take : Byte} (h : 3 < port.toNat ∨ 1 < take.toNat) (s : State) :
    takeReadFault port take s = refuse .badArg s := by
  unfold takeReadFault
  rcases h with hport | htake
  · rw [portOf_of_gt hport]
  · rw [flagOf_of_gt htake]
    cases portOf port <;> rfl

/-- The part after a READ SYNC, which clears the valid flag with take (R161). -/
def captureRead (take : Bool) (s : State) : State :=
  { s with sync := { s.sync with capture := { s.sync.capture with valid := s.sync.capture.valid && !take } } }

theorem takeReadSync_taken (take : Bool) (s : State) :
    takeReadSync (if take then 0x01 else 0x00) s = (captureRead take s, ⟨.done, captureData s.sync.capture⟩) := by
  rw [takeReadSync, flagOf_take]
  cases take <;> simp [captureRead]

theorem takeReadSync_badArg {take : Byte} (h : 1 < take.toNat) (s : State) : takeReadSync take s = refuse .badArg s := by
  rw [takeReadSync, flagOf_of_gt h]

/-- READ PLAN ITEM of an item in range (R187). -/
theorem takeReadPlanItem_taken {s : State} {n : PlanName} {item index : Byte} {data : List Byte}
    (h : planItem s n item index = some data) : takeReadPlanItem (planByte n) item index s = (s, ⟨.done, data⟩) := by
  simp [takeReadPlanItem, h]

theorem takeReadPlanItem_badArg {plan item index : Byte} (h : 1 < plan.toNat ∨ ItemOutOfRange item index) (s : State) :
    takeReadPlanItem plan item index s = refuse .badArg s := by
  unfold takeReadPlanItem
  rcases h with hplan | hitem
  · rw [planOf_of_gt hplan]
  · cases planOf plan with
    | none => rfl
    | some n => simp [planItem_of_outOfRange hitem]

/-- STATUS, taken during RESET GATE too, answers DONE and keeps the last-command result (R180, R181, R183). -/
theorem exec_status {s : State} (h : Sendable .status s) :
    exec .status s =
      let a := answered 0x01 .done (statusData s) { s with out := Outputs.none }
      .next { a with link := { a.link with lastResult := s.link.lastResult, lastCode := s.link.lastCode } } := by
  refine (commandStep_of_sendable rfl h).trans (congrArg _ ?_)
  have htaken : ¬(s.link.resetting && statusCode != statusCode) = true := by simp
  exact if_neg htaken

/-- Settles O47: each reading command by its rule, with its data in range and 0x00 bytes out of range. -/
theorem readingCommandsAnswer : Obligations.ReadingCommandsAnswer := by
  refine ⟨⟨fun s => exec_status, fun s p take => ?_, fun s take => ?_, fun s hopen => ?_, fun s n item index data => ?_⟩,
    fun s => ⟨fun port take hopen h => ?_, fun take hopen h => ?_, fun plan item index hopen h => ?_⟩⟩
  · intro c hopen
    exact commandStep_replied (t := faultRead p take (quiet s)) rfl hopen (by decide) (takeReadFault_taken p take _)
  · intro c hopen
    exact commandStep_replied (t := captureRead take (quiet s)) rfl hopen (by decide) (takeReadSync_taken take _)
  · exact commandStep_replied (rule := takeReadRecoveryReport) (t := quiet s) rfl hopen (by decide) rfl
  · intro c hopen hdata
    exact commandStep_replied (t := quiet s) rfl hopen (by decide) (takeReadPlanItem_taken hdata)
  · exact commandStep_badArg rfl hopen (by decide) (takeReadFault_badArg h)
  · exact commandStep_badArg rfl hopen (by decide) (takeReadSync_badArg h)
  · exact commandStep_badArg rfl hopen (by decide) (takeReadPlanItem_badArg h)

end Sys2Proof.Machine
end

section
/-! SUPPORT. TAKE EVENTS and SET ALERTS as steps of the link (R166, R168), and the ALERT law over every step (R170): the
event unit settles ALERT wherever it changes the event set or the enable set, and nothing else touches the three. -/

namespace Sys2Proof.Machine

-- One proof at a time, as in the sections before.
set_option Elab.async false

/-! ### TAKE EVENTS and SET ALERTS -/

/-- The four bits of a mask above the kinds are clear exactly in the masks below 4096 (Table 11-3). -/
theorem noLooseKind_iff (m : BitVec 16) : m.extractLsb' 12 4 = 0 ↔ m.toNat < 4096 := by
  have hzero : (0 : BitVec 4).toNat = 0 := rfl
  rw [← BitVec.toNat_inj, BitVec.extractLsb'_toNat, Nat.shiftRight_eq_div_pow, hzero]
  omega

theorem eventMaskOf_of_lt {m : BitVec 16} (h : m.toNat < 4096) : eventMaskOf m = some (m.setWidth 12) :=
  if_pos ((noLooseKind_iff m).mpr h)

theorem eventMaskOf_of_ge {m : BitVec 16} (h : 4096 ≤ m.toNat) : eventMaskOf m = none :=
  if_neg fun hnone => Nat.not_lt.mpr h ((noLooseKind_iff m).mp hnone)

/-- A value in two bytes, the high byte first (R182). -/
theorem beBytes_two (v : Nat) : beBytes 2 v = [BitVec.ofNat 8 (v / 256), BitVec.ofNat 8 (v % 256)] := by
  have hlow : BitVec.ofNat 8 (v % 256) = BitVec.ofNat 8 v := BitVec.eq_of_toNat_eq (by simp)
  simp [beBytes, hlow]

theorem takeTakeEvents_taken {m : BitVec 16} (h : m.toNat < 4096) (s : State) :
    takeTakeEvents m s = (clearEvents (m.setWidth 12) s, ⟨.done,
      [BitVec.ofNat 8 (s.events.set.toNat / 256), BitVec.ofNat 8 (s.events.set.toNat % 256)]⟩) := by
  rw [takeTakeEvents, eventMaskOf_of_lt h, beBytes_two]

theorem takeTakeEvents_badArg {m : BitVec 16} (h : 4096 ≤ m.toNat) (s : State) : takeTakeEvents m s = refuse .badArg s := by
  rw [takeTakeEvents, eventMaskOf_of_ge h]

/-- The part with another enable set, ALERT following it (R168, R169). -/
def alertsSet (enabled : BitVec 12) (s : State) : State := { s with events := settleAlert { s.events with enabled := enabled } }

theorem takeSetAlerts_taken {m : BitVec 16} (h : m.toNat < 4096) (s : State) :
    takeSetAlerts m s = (alertsSet (m.setWidth 12) s, replyOnly .done) := by
  rw [takeSetAlerts, eventMaskOf_of_lt h]
  rfl

theorem takeSetAlerts_badArg {m : BitVec 16} (h : 4096 ≤ m.toNat) (s : State) : takeSetAlerts m s = refuse .badArg s := by
  rw [takeSetAlerts, eventMaskOf_of_ge h]

/-- Settles O50: each command by its rule, with its mask in range and with a bit of no kind. -/
theorem eventCommandsAct : Obligations.EventCommandsAct := by
  refine fun m s => ⟨fun hopen h => ?_, fun hopen h => ?_, fun hopen h => ?_, fun hopen h => ?_⟩
  · exact commandStep_replied (t := clearEvents (m.setWidth 12) (quiet s)) rfl hopen (by decide) (takeTakeEvents_taken h _)
  · exact commandStep_badArg rfl hopen (by decide) (takeTakeEvents_badArg h)
  · exact commandStep_answered (t := alertsSet (m.setWidth 12) (quiet s)) rfl hopen (by decide) (takeSetAlerts_taken h _)
  · exact commandStep_badArg rfl hopen (by decide) (takeSetAlerts_badArg h)

/-! ### The ALERT line -/

/-- Every bit of the event set is the bit of a kind (Table 11-3). -/
theorem exists_eventIndex {i : Nat} (h : i < 12) : ∃ k, eventIndex k = i := by
  have hkinds : [EventKind.accessFault, .postedLost, .memoryFailed, .recoveryDone, .checkDone, .swapDone, .gateStopped,
    .syncCaptured, .syncLost, .frameStart, .portReset, .linkError].map eventIndex = List.range 12 := rfl
  obtain ⟨k, -, hk⟩ := List.mem_map.mp (hkinds ▸ List.mem_range.mpr h)
  exact ⟨k, hk⟩

/-- Two sets share a kind exactly when they have a bit in common. -/
theorem shareKind_iff (x y : BitVec 12) :
    (x &&& y) ≠ 0 ↔ ∃ k : EventKind, x.getLsbD (eventIndex k) = true ∧ y.getLsbD (eventIndex k) = true := by
  constructor
  · intro hne
    by_contra hnone
    refine hne (BitVec.eq_of_getLsbD_eq fun i hi => ?_)
    obtain ⟨k, rfl⟩ := exists_eventIndex hi
    rw [BitVec.getLsbD_and, BitVec.ofNat_eq_ofNat, BitVec.getLsbD_zero, ← Bool.not_eq_true, Bool.and_eq_true]
    exact fun hk => hnone ⟨k, hk⟩
  · rintro ⟨k, hx, hy⟩ hzero
    have hbit : (x &&& y).getLsbD (eventIndex k) = true := by rw [BitVec.getLsbD_and, hx, hy]; rfl
    simp [hzero] at hbit

/-- R170 in the terms of the event unit: settling ALERT again changes nothing. -/
theorem alertLaw_iff (s : State) : AlertLaw s ↔ s.events.alert = ((s.events.set &&& s.events.enabled) != 0) := by
  rw [AlertLaw, ← shareKind_iff, ← bne_iff_ne]
  exact Bool.eq_iff_iff.symm

/-- An event unit that has settled ALERT follows R170. -/
theorem AlertLaw.of_settled {s : State} (e : EventUnit) (h : s.events = settleAlert e := by rfl) : AlertLaw s :=
  (alertLaw_iff s).mpr (by rw [h]; rfl)

theorem raise_alertLaw (k : EventKind) (s : State) : AlertLaw (raise k s) := .of_settled _

theorem handFault_alertLaw (p : Port) (i : FaultInfo) (s : State) : AlertLaw (handFault p i s) := raise_alertLaw _ _

theorem loseEntry_alertLaw (reason : FaultReason) (s : State) (e : PostedEntry) : AlertLaw (loseEntry reason s e) :=
  handFault_alertLaw _ _ _

theorem enterStopped_alertLaw (s : State) : AlertLaw (enterStopped s) := by
  rw [enterStopped_eq]; exact .of_settled { s.events with set := s.events.set ||| 0x040 }

/-- After a reset no kind is in either set, and ALERT is released (R164, R168, R169). -/
theorem AlertLaw.of_reset {s : State} (h : s.events = State.reset.events := by rfl) : AlertLaw s :=
  .of_settled State.reset.events (h.trans rfl)

/-! ### Events that keep the law -/

/-- The event carries the ALERT law over: it leaves the sets and the line, or it settles the line. -/
def KeepsAlert (s t : State) : Prop := AlertLaw s → AlertLaw t

namespace KeepsAlert

/-- An update that does not name the event unit. -/
theorem same {s t : State} (h : t.events = s.events := by rfl) : KeepsAlert s t := fun hs => by
  rw [alertLaw_iff] at hs ⊢
  rwa [h]

theorem refl (s : State) : KeepsAlert s s := id

theorem trans {s t u : State} (h : KeepsAlert s t) (h' : KeepsAlert t u) : KeepsAlert s u := h' ∘ h

/-- An event that settles the line, whatever it was. -/
theorem settled {s t : State} (h : AlertLaw t) : KeepsAlert s t := fun _ => h

/-- An event kind is raised, or a fault handed to the event unit (R169). -/
theorem raised {s t : State} (k : EventKind) : KeepsAlert s (raise k t) := settled (raise_alertLaw k t)

theorem after_same {s t u : State} (h : KeepsAlert t u) (hevents : t.events = s.events := by rfl) : KeepsAlert s u :=
  (same hevents).trans h

theorem foldl {α : Type} {f : State → α → State} (h : ∀ a s, KeepsAlert s (f s a)) (l : List α) (s : State) :
    KeepsAlert s (l.foldl f s) := by
  induction l generalizing s with
  | nil => exact refl s
  | cons a l ih => exact (h a s).trans (ih (f s a))

theorem ite {c : Prop} [Decidable c] {s t u : State} (ht : KeepsAlert s t) (hu : KeepsAlert s u) :
    KeepsAlert s (if c then t else u) := by
  split <;> assumption

end KeepsAlert

/-! ### The hold queues and the gate -/

theorem clearQueue_keepsAlert (st : Status) (p : Port) (s : State) : KeepsAlert s (clearQueue st p s) := by
  rw [clearQueue_eq]; exact .same

theorem enterStopped_keepsAlert (s : State) : KeepsAlert s (enterStopped s) := .settled (enterStopped_alertLaw s)

theorem enterFaulted_keepsAlert (s : State) : KeepsAlert s (enterFaulted s) := by
  rw [enterFaulted, clearOnFault_eq]; exact .same

theorem expireOne_keepsAlert (p : Port) (s : State) : KeepsAlert s (expireOne p s) := by
  unfold expireOne
  split
  · exact .refl s
  · exact .settled (handFault_alertLaw _ _ _)

theorem expireAll_keepsAlert (s : State) : KeepsAlert s (expireAll s) :=
  .foldl (fun p t => .foldl (fun _ => expireOne_keepsAlert p) _ t) _ s

/-- A held request passes plan entry, or is refused with a fault (R88). -/
theorem enterHeld_keepsAlert (p : Port) (h : Held) (s : State) : KeepsAlert s (enterHeld p s h) := by
  simp only [enterHeld]
  split
  · exact .same
  · exact .settled (handFault_alertLaw _ _ _)
  · exact .settled (handFault_alertLaw _ _ _)

theorem planEntry_keepsAlert (s : State) : KeepsAlert s (planEntry s) :=
  .foldl (fun p _ => (KeepsAlert.foldl (enterHeld_keepsAlert p) _ _).after_same) _ s

theorem enterRunning_keepsAlert (s : State) : KeepsAlert s (enterRunning s) :=
  (KeepsAlert.raised _).trans (planEntry_keepsAlert _)

/-- Whatever the swap of a frame boundary did, it ends in an entry to STOPPED or with FRAME_START (R30 steps 3 and 4). -/
theorem frameBoundary_keepsAlert (s : State) : KeepsAlert s (frameBoundary s) :=
  .ite (.settled (enterStopped_alertLaw _)) (.raised _)

theorem takeWalkTick_keepsAlert (s : State) : KeepsAlert s (takeWalkTick s) := by
  have hexpired (t : State) : KeepsAlert t (expireWindow t) := .ite .same (frameBoundary_keepsAlert t)
  exact .ite .same (.ite (hexpired _).after_same .same)

theorem takeOwedWalk_keepsAlert (s : State) : KeepsAlert s (takeOwedWalk s) := .ite (takeWalkTick_keepsAlert s) (.refl s)

theorem completeCheck_keepsAlert (s : State) : KeepsAlert s (completeCheck s) := by
  unfold completeCheck
  split
  · exact .raised _
  · exact .refl s

theorem seenEdge_keepsAlert (e : SyncEdge) (s : State) : KeepsAlert s (seenEdge e s) := by
  have hact (o : SyncOutcome) (t : State) : KeepsAlert t (actOnOutcome o t) := by
    cases o with
    | started => exact enterRunning_keepsAlert t
    | earlyCut => exact frameBoundary_keepsAlert t
    | outOfLimit => exact .raised _
    | lateRewind => exact .same
    | none => exact .refl t
    | observed => exact .refl t
    | inStep => exact .refl t
  exact .ite ((KeepsAlert.raised _).trans (hact _ _)) (.refl s)

/-- An arrival is answered, posted or held, and a fault is handed on with the answer (R56, R57, R75). -/
theorem acceptRequest_keepsAlert (p : Port) (r : Request) (s : State) : KeepsAlert s (acceptRequest p r s) := by
  have hrejected (st : Status) (reason : FaultReason) : KeepsAlert s (rejectArrival p r st reason s) :=
    .settled (handFault_alertLaw _ _ _)
  have hunbroken : KeepsAlert s (acceptUnbroken p r s) := by
    refine .ite ?_ .same
    split
    · exact hrejected _ _
    · exact hrejected _ _
    · exact .ite .same .same
  refine .ite .same ?_
  split
  · exact hrejected _ _
  · exact hunbroken

/-! ### The memory port -/

/-- Whatever the first steps of a memory failure did, it raises MEMORY_FAILED, and the steps after that leave the event unit
(R143, R191). -/
theorem memoryFailure_keepsAlert (why : FailureKind) (s : State) : KeepsAlert s (memoryFailure why s) := by
  have hreset (t : State) : KeepsAlert t (abandonReset t) := .ite .same (.refl t)
  exact ((KeepsAlert.raised _).trans (enterFaulted_keepsAlert _)).trans (hreset _)

theorem timeoutTest_keepsAlert (s : State) : KeepsAlert s (timeoutTest s) := .ite (memoryFailure_keepsAlert _ s) (.refl s)

/-- An access completed: its request answered, with a fault for an error, or its posted write freed or lost (R132, R133). -/
theorem completeEntry_keepsAlert (e : IssueEntry) (m : MemResponse) (s : State) : KeepsAlert s (completeEntry e m s) := by
  unfold completeEntry
  split
  · exact .ite (.refl s) (.ite .same (.settled (handFault_alertLaw _ _ _)))
  · unfold completePosted
    split
    · exact .refl s
    · exact .ite .same (.settled (loseEntry_alertLaw _ _ _))

theorem takeResponse_keepsAlert (m : MemResponse) (s : State) : KeepsAlert s (takeResponse m s) := by
  unfold takeResponse
  split
  · exact .refl s
  · exact .refl s
  · split
    · exact memoryFailure_keepsAlert _ s
    · rename_i e rest _
      have hdone : KeepsAlert s (completeEntry e m { s with mem := { s.mem with issueList := rest } }) :=
        (completeEntry_keepsAlert e m _).after_same
      exact .ite (hdone.trans (timeoutTest_keepsAlert _)) (memoryFailure_keepsAlert _ s)

theorem recoverySucceeds_keepsAlert (s : State) : KeepsAlert s (recoverySucceeds s) := .settled (enterStopped_alertLaw _)

theorem endPulse_keepsAlert (s : State) : KeepsAlert s (endPulse s) :=
  .ite (.ite (recoverySucceeds_keepsAlert _).after_same .same) (.refl s)

theorem memrdyRises_keepsAlert (s : State) : KeepsAlert s (memrdyRises s) := by
  unfold memrdyRises
  split
  · exact recoverySucceeds_keepsAlert s
  · exact .refl s
  · exact .refl s

theorem expireReadyWait_keepsAlert (s : State) : KeepsAlert s (expireReadyWait s) := .ite (.raised _) (.refl s)

/-- A grant moves an access to the memory and raises nothing (R126). -/
theorem decideGrant_keepsAlert (memReady : Bool) (s : State) : KeepsAlert s (decideGrant memReady s) := by
  have hport (p : Port) (tag : IssueTag) : KeepsAlert s (grantPort p tag s) := by
    unfold grantPort
    split <;> exact .same
  have hretire (tag : IssueTag) : KeepsAlert s (grantRetire tag s) := by
    unfold grantRetire
    split <;> exact .same
  obtain hnone | ⟨c, tag, -, -, hgrant⟩ := decideGrant_cases memReady s
  · rw [hnone]; exact .refl s
  · rw [hgrant]
    cases c with
    | port p => exact hport p tag
    | retire => exact hretire tag

/-! ### The tick and the settings -/

theorem setDevice_keepsAlert (d : Device) (s : State) : KeepsAlert s (setDevice d s) := by
  unfold setDevice restartTick
  split <;> exact .same

/-- The reset step leaves no event and ALERT released (R190). -/
theorem takeResetStep_keepsAlert (s : State) : KeepsAlert s (takeResetStep s) := .ite (.settled .of_reset) (.refl s)

theorem takeDue_keepsAlert (s : State) : KeepsAlert s (takeDue s) := by
  have hcheck := ((takeOwedWalk_keepsAlert s).trans (expireAll_keepsAlert _)).trans (completeCheck_keepsAlert _)
  have hmemory (t : State) : KeepsAlert t (expireReadyWait (endPulse (timeoutTest t))) :=
    ((timeoutTest_keepsAlert t).trans (endPulse_keepsAlert _)).trans (expireReadyWait_keepsAlert _)
  exact (hcheck.trans (hmemory _)).trans (takeResetStep_keepsAlert _)

theorem gateTick_keepsAlert (s : State) : KeepsAlert s (gateTick s) := by
  have hdue : KeepsAlert s { takeDue s with ticked := 0 } := (takeDue_keepsAlert s).trans .same
  have hwalk (t : State) : KeepsAlert t (tickWalk t) := .ite .same (takeWalkTick_keepsAlert t)
  have hcounts (t : State) : KeepsAlert t (tickCheck (tickMemory (tickDeadlines t))) := .same
  have hdrain (t : State) : KeepsAlert t (tickReset t) := .ite .same (.refl t)
  exact ((hdue.trans (hwalk _)).trans (hcounts _)).trans (hdrain _)

theorem countCycle_keepsAlert (s : State) : KeepsAlert s (countCycle s) :=
  .ite .same ((gateTick_keepsAlert s).trans (takeDue_keepsAlert _))

theorem applyDevice_keepsAlert (d : Device) (s : State) : KeepsAlert s (applyDevice d s) := by
  have hcleared := (setDevice_keepsAlert d s).trans
    (.ite (c := (s.device.bootPass && !d.bootPass) = true) (clearQueue_keepsAlert .closed .p0 _) (.refl _))
  exact .ite hcleared (hcleared.trans (timeoutTest_keepsAlert _))

/-! ### The management commands -/

theorem planWrite_keepsAlert (plan : Byte) (change : Option (Plan → Plan)) (s : State) :
    KeepsAlert s (planWrite plan change s).1 := by
  unfold planWrite
  split
  · exact .same
  · split <;> exact .same

/-- A mask of kinds clears events and settles the line; a mask with a bit of no kind is refused (R166). -/
theorem takeTakeEvents_keepsAlert (m : BitVec 16) (s : State) : KeepsAlert s (takeTakeEvents m s).1 := by
  unfold takeTakeEvents
  split
  · exact .refl s
  · exact .settled (.of_settled _)

theorem takeSetAlerts_keepsAlert (m : BitVec 16) (s : State) : KeepsAlert s (takeSetAlerts m s).1 := by
  unfold takeSetAlerts
  split
  · exact .refl s
  · exact .settled (.of_settled _)

/-- READ FAULT empties a fault record at most, and ALERT does not read those (R170, R174). -/
theorem takeReadFault_keepsAlert (port take : Byte) (s : State) : KeepsAlert s (takeReadFault port take s).1 := by
  have hemptied (p : Port) : KeepsAlert s (emptyFault p s) := id
  unfold takeReadFault
  split
  · exact .ite (hemptied _) (.refl s)
  · exact .refl s

theorem takeRequestSwap_keepsAlert (plan : Byte) (s : State) : KeepsAlert s (takeRequestSwap plan s).1 := by
  unfold takeRequestSwap
  split
  · exact .same
  · split
    · unfold swapStopped
      split_ifs
      · exact .raised _
      · exact .refl s
    · unfold swapRunning
      split_ifs <;> exact .same
    · exact .same
    · exact .same
    · exact .same

theorem takeSetDevice_keepsAlert (d : Byte) (l : BitVec 16) (p b : Byte) (s : State) :
    KeepsAlert s (takeSetDevice d l p b s).1 := by
  unfold takeSetDevice
  split
  · split_ifs
    · exact .same
    · exact .same
    · exact applyDevice_keepsAlert _ s
  · exact .same

theorem takeStart_keepsAlert (mode : Byte) (s : State) : KeepsAlert s (takeStart mode s).1 := by
  unfold takeStart
  split_ifs
  · exact .same
  · exact .same
  · exact .same
  · exact enterRunning_keepsAlert s
  · exact .same
  · exact .same

theorem takeHalt_keepsAlert (s : State) : KeepsAlert s (takeHalt s).1 := by
  unfold takeHalt
  split
  case h_3 => exact enterStopped_keepsAlert s
  all_goals exact .same

theorem takeHaltNow_keepsAlert (s : State) : KeepsAlert s (takeHaltNow s).1 := by
  have hstop : KeepsAlert s (enterStopped (withdrawPending s)) := .settled (enterStopped_alertLaw _)
  unfold takeHaltNow
  split
  · exact hstop
  · exact hstop
  · exact hstop
  · exact .same
  · exact .same

theorem takeResetGate_keepsAlert (s : State) : KeepsAlert s (takeResetGate s).1 := by
  have hbegin (t : State) : KeepsAlert t (beginReset t) := (clearQueue_keepsAlert _ _ _).after_same
  unfold takeResetGate
  split
  · exact .same
  · exact .same
  · exact .same
  · exact (enterStopped_keepsAlert s).trans (hbegin _)
  · exact hbegin s

theorem commandRule_keepsAlert {c : Instr} {rule : State → State × Reply} (hc : commandRule c = some rule) (s : State) :
    KeepsAlert s (rule s).1 := by
  cases c <;> cases hc
  case status => exact .same
  case takeEvents m => exact takeTakeEvents_keepsAlert m s
  case readFault p t => exact takeReadFault_keepsAlert p t s
  case readSync => unfold takeReadSync; split <;> exact .same
  case readRecoveryReport => exact .same
  case setAlerts m => exact takeSetAlerts_keepsAlert m s
  case setDevice d l p b => exact takeSetDevice_keepsAlert d l p b s
  case setSync =>
    unfold takeSetSync
    split
    · split_ifs <;> exact .same
    · exact .same
  case writeWindow => exact planWrite_keepsAlert _ _ s
  case setWindowCount => exact planWrite_keepsAlert _ _ s
  case writeRegion => exact planWrite_keepsAlert _ _ s
  case setRegionCount => exact planWrite_keepsAlert _ _ s
  case writePortSettings => exact planWrite_keepsAlert _ _ s
  case writeCosts => exact planWrite_keepsAlert _ _ s
  case readPlanItem =>
    unfold takeReadPlanItem
    split
    · exact .same
    · split <;> exact .same
  case copyPlan =>
    simp only [takeCopyPlan]
    split
    · exact .same
    · split_ifs <;> exact .same
  case checkPlan =>
    simp only [takeCheckPlan]
    split
    · exact .same
    · split_ifs <;> exact .same
  case requestSwap n => exact takeRequestSwap_keepsAlert n s
  case withdrawSwap => exact .same
  case start m => exact takeStart_keepsAlert m s
  case halt => exact takeHalt_keepsAlert s
  case haltNow => exact takeHaltNow_keepsAlert s
  case recover => unfold takeRecover; split_ifs <;> exact .same
  case resetGate => exact takeResetGate_keepsAlert s

/-! ### The management link -/

theorem answerCommand_keepsAlert (code : Byte) (r : Reply) (s : State) : KeepsAlert s (answerCommand code r s) := by
  unfold answerCommand
  split <;> exact .same

theorem takeCommand_keepsAlert {c : Instr} {rule : State → State × Reply} (hc : commandRule c = some rule) (code : Byte)
    (s : State) : KeepsAlert s (takeCommand code rule s) :=
  .ite (answerCommand_keepsAlert _ _ s) ((commandRule_keepsAlert hc s).trans (answerCommand_keepsAlert _ _ _))

/-- A CRC byte that does not match raises LINK_ERROR (R178). -/
theorem answerBadCrc_keepsAlert (code : Byte) (s : State) : KeepsAlert s (answerBadCrc code s) :=
  (KeepsAlert.raised .linkError).trans .same

theorem takeFrame_keepsAlert (frame : List Byte) (s : State) : KeepsAlert s (takeFrame frame s) := by
  simp only [takeFrame]
  split
  · rename_i rule hrule
    obtain ⟨c, -, hc⟩ := Option.bind_eq_some_iff.mp hrule
    exact takeCommand_keepsAlert hc _ s
  · exact .same

theorem takeByte_keepsAlert (b : Byte) (s : State) : KeepsAlert s (takeByte b s) := by
  unfold takeByte
  split
  · exact .refl s
  · have hcrc (t : State) : KeepsAlert t (takeCrcByte b t) := .ite (takeFrame_keepsAlert _ t) (answerBadCrc_keepsAlert _ t)
    exact (KeepsAlert.ite (hcrc _) .same).after_same
  · unfold responseByte
    split <;> exact .same
  · exact .same

/-- A rise of chip-select in COMMAND raises LINK_ERROR for a truncated frame (R179). -/
theorem riseSelect_keepsAlert (edges : Fin 8) (s : State) : KeepsAlert s (riseSelect edges s) := by
  unfold riseSelect
  split
  · have htruncated : KeepsAlert s (truncateFrame s) := .raised _
    exact (KeepsAlert.ite (.refl s) htruncated).trans .same
  · exact .same
  · exact .same
  · exact .same

/-! ### Every step -/

/-- A command that reaches the part, after an update of the levels of its pins. -/
theorem onEvent_keepsAlert {f : State → State} {s u t : State} (hu : KeepsAlert s u) (hf : ∀ v, KeepsAlert v (f v))
    (ht : onEvent f u = .next t) : KeepsAlert s t := by
  cases ht
  exact hu.trans (.ite .same (hf _).after_same)

theorem frameStep_keepsAlert {frame : List Byte} {f : State → State} {s t : State} (hf : ∀ v, KeepsAlert v (f v))
    (ht : frameStep frame f s = .next t) : KeepsAlert s t :=
  onEvent_keepsAlert (.refl s) (fun v => .ite (hf _).after_same (.refl v)) ht

theorem commandStep_keepsAlert {c : Instr} {rule : State → State × Reply} (hc : commandRule c = some rule) {s t : State}
    (ht : commandStep c rule s = .next t) : KeepsAlert s t := by
  unfold commandStep at ht
  split at ht
  · exact frameStep_keepsAlert (takeCommand_keepsAlert hc _) ht
  · cases ht; exact .same

/-- The rows of the table that are no management command. -/
theorem exec_event_keepsAlert {c : Instr} (hc : commandRule c = none) {s t : State} (ht : exec c s = .next t) :
    KeepsAlert s t := by
  have hrefl := KeepsAlert.refl s
  cases c <;> cases hc
  case por => cases ht; exact .settled .of_reset
  case rst => cases ht; exact .settled .of_reset
  case linkReset p =>
    simp only [exec, execLinkReset] at ht
    split at ht
    · cases ht; exact .same
    · exact onEvent_keepsAlert .same (fun _ => .raised _) ht
  case linkResetRelease p => cases ht; exact .same
  case gateTick => exact onEvent_keepsAlert hrefl gateTick_keepsAlert ht
  case windowExpiry => exact onEvent_keepsAlert hrefl takeOwedWalk_keepsAlert ht
  case holdLimitExpiry p => exact onEvent_keepsAlert hrefl (expireOne_keepsAlert p) ht
  case checkCompletion => exact onEvent_keepsAlert hrefl completeCheck_keepsAlert ht
  case timeout => exact onEvent_keepsAlert hrefl timeoutTest_keepsAlert ht
  case recoveryPulseEnd level =>
    exact onEvent_keepsAlert hrefl (fun v => .ite (endPulse_keepsAlert _).after_same (.refl v)) ht
  case memrdyAsserted => exact onEvent_keepsAlert .same memrdyRises_keepsAlert ht
  case readyWaitExpiry => exact onEvent_keepsAlert hrefl expireReadyWait_keepsAlert ht
  case resetStep => exact onEvent_keepsAlert hrefl takeResetStep_keepsAlert ht
  case syncEdge e => exact onEvent_keepsAlert .same (seenEdge_keepsAlert e) ht
  case requestArrival p r =>
    exact onEvent_keepsAlert hrefl (fun v => .ite (acceptRequest_keepsAlert p r v) (.refl v)) ht
  case grant ready => exact onEvent_keepsAlert hrefl (decideGrant_keepsAlert ready) ht
  case memoryResponse m => exact onEvent_keepsAlert hrefl (takeResponse_keepsAlert m) ht
  case chipSelectFall =>
    simp only [exec, execChipSelectFall] at ht
    split at ht
    · cases ht; exact .same
    · exact onEvent_keepsAlert .same (fun _ => .same) ht
  case chipSelectRise edges =>
    simp only [exec, execChipSelectRise] at ht
    split at ht
    · exact onEvent_keepsAlert .same (riseSelect_keepsAlert edges) ht
    · cases ht; exact .same
  case badCrc frame crc =>
    simp only [exec, execBadCrc] at ht
    split at ht
    · exact frameStep_keepsAlert (answerBadCrc_keepsAlert _) ht
    · cases ht; exact .same
  case unknown code =>
    simp only [exec, execUnknown] at ht
    split at ht
    · exact frameStep_keepsAlert (fun _ => .same) ht
    · cases ht; exact .same
  case linkByte b => exact onEvent_keepsAlert hrefl (takeByte_keepsAlert b) ht
  case resetRelease =>
    simp only [exec, execResetRelease] at ht
    cases ht
    split <;> exact .same

theorem exec_keepsAlert (c : Instr) {s t : State} (ht : exec c s = .next t) : KeepsAlert s t := by
  cases hc : commandRule c with
  | some rule => exact commandStep_keepsAlert hc (exec_of_commandRule hc s ▸ ht)
  | none => exact exec_event_keepsAlert hc ht

theorem step_keepsAlert {s t : State} (ht : step s = .next t) : KeepsAlert s t := by
  unfold step at ht
  split at ht
  · exact onEvent_keepsAlert (.refl s) (fun v => .ite (takeDue_keepsAlert v) (countCycle_keepsAlert v)) ht
  · exact (exec_keepsAlert _ ht).after_same

/-- Settles O20: every command, and the clock with none waiting, leaves the sets and the line or settles the line. -/
theorem stepKeepsTheAlertLaw : Obligations.StepKeepsTheAlertLaw := fun _ _ h ht => step_keepsAlert ht h

end Sys2Proof.Machine
end

section
/-! SUPPORT. CRC-8 as division of polynomials (R177). The register of the division takes the message bit by bit and the CRC
takes it byte by byte; the CRC of what has been taken is the register with eight more zero bits taken. -/

namespace Sys2Proof.Laws.Crc

/-! ### One bit -/

/-- What the polynomial leaves in the register when it is subtracted for a bit that left at the top (R177). -/
def subtracted (top : Bool) : Byte := if top then 0x07#8 else 0x00#8

/-- A bit of the message as the last bit of a byte. -/
def lastBit (bit : Bool) : Byte := if bit then 0x01#8 else 0x00#8

/-- The register of the division takes one bit of the message (R177). -/
def divideBit (r : Byte) (bit : Bool) : Byte := (r <<< 1 ||| lastBit bit) ^^^ subtracted (r.getLsbD 7)

theorem subtracted_xor (x y : Bool) : subtracted (x ^^ y) = subtracted x ^^^ subtracted y := by
  cases x <;> cases y <;> rfl

theorem crcBit_eq (c : Byte) : crcBit c = c <<< 1 ^^^ subtracted c.msb := by
  unfold crcBit subtracted
  split
  · rfl
  · exact BitVec.xor_zero.symm

theorem crcBit_xor (x y : Byte) : crcBit (x ^^^ y) = crcBit x ^^^ crcBit y := by
  simp only [crcBit_eq, BitVec.shiftLeft_xor_distrib, BitVec.msb_xor, subtracted_xor]
  ac_rfl

/-- The place that a shift leaves free takes the next bit. -/
theorem shiftLeft_or_lastBit (r : Byte) (bit : Bool) : r <<< 1 ||| lastBit bit = r <<< 1 ^^^ lastBit bit := by
  ext i hi
  cases i with
  | zero => simp
  | succ i => cases bit <;> simp [lastBit]

/-- A step of the division is a step of the CRC with the bit of the message added. -/
theorem divideBit_eq (r : Byte) (bit : Bool) : divideBit r bit = crcBit r ^^^ lastBit bit := by
  rw [divideBit, shiftLeft_or_lastBit, crcBit_eq, BitVec.msb_eq_getLsbD_last]
  ac_rfl

theorem divideBit_xor (x y : Byte) (bit : Bool) : divideBit (x ^^^ y) bit = crcBit x ^^^ divideBit y bit := by
  rw [divideBit_eq, divideBit_eq, crcBit_xor, BitVec.xor_assoc]

/-! ### One byte -/

/-- The bits of a byte, most significant bit first (R177). -/
def bitsOf (b : Byte) : List Bool :=
  [b.getLsbD 7, b.getLsbD 6, b.getLsbD 5, b.getLsbD 4, b.getLsbD 3, b.getLsbD 2, b.getLsbD 1, b.getLsbD 0]

/-- The register of the division takes one byte of the message (R177). -/
def divideByte (r b : Byte) : Byte := (bitsOf b).foldl divideBit r

/-- Division is linear: a part of the register is carried through the bits of the message as through zero bits. -/
theorem foldl_divideBit_xor (bits : List Bool) (x y : Byte) :
    bits.foldl divideBit (x ^^^ y) = crcBit^[bits.length] x ^^^ bits.foldl divideBit y := by
  induction bits generalizing x y with
  | nil => rfl
  | cons bit bits ih => rw [List.foldl_cons, divideBit_xor, ih, List.length_cons, Function.iterate_succ_apply, List.foldl_cons]

/-- While the leading zeros of a byte last, the division shifts its bits in and subtracts nothing. -/
theorem divideBit_ushiftRight (b : Byte) (i : Nat) : divideBit (b >>> (i + 1)) (b.getLsbD i) = b >>> i := by
  have htop : (b >>> (i + 1)).getLsbD 7 = false := by
    rw [BitVec.getLsbD_ushiftRight]
    exact BitVec.getLsbD_of_ge _ _ (by omega)
  rw [divideBit, htop]
  ext j hj
  cases j with
  | zero => cases h : b.getLsbD i <;> simp [lastBit, subtracted, h]
  | succ j => cases h : b.getLsbD i <;> simp [lastBit, subtracted, add_assoc, add_comm 1 j]

/-- Eight bits fit in the register: taken into an empty one, they are the byte. -/
theorem divideByte_zero (b : Byte) : divideByte 0x00#8 b = b := by
  calc divideByte 0x00#8 b
      = (bitsOf b).foldl divideBit (b >>> 8) := by rw [divideByte, BitVec.ushiftRight_eq_zero (le_refl 8)]
    _ = b >>> 0 := by simp only [bitsOf, List.foldl_cons, List.foldl_nil, divideBit_ushiftRight]
    _ = b := BitVec.ushiftRight_zero b

/-- Eight bits taken: what was in the register is carried on, and the byte stands where it was. -/
theorem divideByte_eq (r b : Byte) : divideByte r b = crcBit^[8] r ^^^ b := by
  calc divideByte r b
      = (bitsOf b).foldl divideBit (r ^^^ 0x00#8) := by rw [BitVec.xor_zero]; rfl
    _ = crcBit^[8] r ^^^ divideByte 0x00#8 b := foldl_divideBit_xor _ _ _
    _ = crcBit^[8] r ^^^ b := by rw [divideByte_zero]

/-- The CRC runs eight zero bits ahead of the register. -/
theorem crcByte_iterate_crcBit (r b : Byte) : crcByte (crcBit^[8] r) b = crcBit^[8] (divideByte r b) := by
  rw [divideByte_eq]
  rfl

/-! ### The message -/

/-- The CRC of a message is the register of the division after the message and a byte of zero bits. -/
theorem crc8_eq_foldl_divideByte (bytes : List Byte) : crc8 bytes = (bytes ++ [0x00#8]).foldl divideByte 0x00#8 := by
  calc crc8 bytes
      = bytes.foldl crcByte (crcBit^[8] 0x00#8) := rfl
    _ = crcBit^[8] (bytes.foldl divideByte 0x00#8) := List.foldl_hom _ crcByte_iterate_crcBit
    _ = divideByte (bytes.foldl divideByte 0x00#8) 0x00#8 := by rw [divideByte_eq, BitVec.xor_zero]
    _ = (bytes ++ [0x00#8]).foldl divideByte 0x00#8 := (List.foldl_concat ..).symm

/-- Settles O7: the worked frames by evaluation, and the remainder bit by bit from the division byte by byte. -/
theorem crcIsTheRemainder : Obligations.CrcIsTheRemainder := by
  refine ⟨by decide +kernel, fun bytes => ?_⟩
  calc crc8 bytes
      = (bytes ++ [0x00#8]).foldl divideByte 0x00#8 := crc8_eq_foldl_divideByte bytes
    _ = ((bytes ++ [0x00#8]).flatMap bitsOf).foldl divideBit 0x00#8 := List.foldl_flatMap.symm

end Sys2Proof.Laws.Crc
end

section
/-! SUPPORT. The management link byte by byte (R176, R178, R179): what each transaction state makes of a byte, and how a
fall and a rise of chip-select begin and end a transaction. -/

namespace Sys2Proof.Machine

/-! ### Chip-select -/

theorem exec_chipSelectFall {s : State} (hout : s.inReset = false) (hhigh : s.link.selected = false) :
    exec .chipSelectFall s = .next (beginTransaction (setSelected true (quiet s))) :=
  (if_neg (Bool.eq_false_iff.mp hhigh)).trans (onEvent_of_running hout)

theorem exec_chipSelectRise (edges : Fin 8) {s : State} (hout : s.inReset = false) (hlow : s.link.selected = true) :
    exec (.chipSelectRise edges) s = .next (riseSelect edges (setSelected false (quiet s))) :=
  (if_pos hlow).trans (onEvent_of_running hout)

/-- No clock edge was received in COMMAND: no bit of a byte and no whole byte. -/
theorem noEdge_iff (edges : Fin 8) (frame : List Byte) :
    (frame.isEmpty && edges == 0) = true ↔ frame = [] ∧ edges = 0 := by simp

/-- Outside COMMAND, or in COMMAND with no clock edge, a rise only ends the transaction (R179). -/
theorem riseSelect_untruncated {edges : Fin 8} {s : State} (h : s.link.phase ≠ .command ∨ (s.link.frame = [] ∧ edges = 0)) :
    riseSelect edges s = endTransaction s := by
  unfold riseSelect
  split
  next hphase => rw [if_pos ((noEdge_iff _ _).mpr (h.resolve_left (not_not.mpr hphase)))]
  all_goals rfl

/-- In COMMAND with a clock edge received, a rise truncates the frame (R179). -/
theorem riseSelect_truncated {edges : Fin 8} {s : State} (hphase : s.link.phase = .command)
    (h : s.link.frame ≠ [] ∨ edges ≠ 0) : riseSelect edges s = endTransaction (truncateFrame s) := by
  have hedge : ¬ (s.link.frame.isEmpty && edges == 0) = true := by rw [noEdge_iff]; tauto
  rw [riseSelect, hphase]
  exact congrArg endTransaction (if_neg hedge)

/-! ### A byte in each transaction state -/

theorem exec_linkByte (b : Byte) {s : State} (hout : s.inReset = false) :
    exec (.linkByte b) s = .next (takeByte b (quiet s)) := onEvent_of_running hout

theorem takeByte_idle {b : Byte} {s : State} (h : s.link.phase = .idle) : takeByte b s = s := by
  rw [takeByte, h]

theorem takeByte_command {b : Byte} {s : State} (h : s.link.phase = .command) :
    takeByte b s = commandByte b (setDataOut 0xFF s) := by
  rw [takeByte, h]

theorem takeByte_response {b : Byte} {s : State} (h : s.link.phase = .response) : takeByte b s = responseByte s := by
  rw [takeByte, h]

theorem takeByte_trail {b : Byte} {s : State} (h : s.link.phase = .trail) : takeByte b s = setDataOut 0xFF s := by
  rw [takeByte, h]

/-- The next response byte is given, and the link is in TRAIL after the last (R176). -/
theorem responseByte_of_cons {r : Byte} {rest : List Byte} {s : State} (hphase : s.link.phase = .response)
    (h : s.link.response = r :: rest) :
    responseByte s = { s with
      link := { s.link with dataOut := r, response := rest, phase := if rest = [] then .trail else .response } } := by
  unfold responseByte
  rw [h]
  cases rest with
  | nil => rfl
  | cons r' rest => simp [setDataOut, hphase]

/-! ### The bytes of a frame -/

/-- Before its frame is complete, a byte in COMMAND joins it (R176). -/
theorem commandByte_of_incomplete {b : Byte} {s : State} (h : frameComplete s.link.frame = false) :
    commandByte b s = { s with link := { s.link with frame := s.link.frame ++ [b] } } :=
  if_neg (Bool.eq_false_iff.mp h)

theorem commandByte_of_complete {b : Byte} {s : State} (h : frameComplete s.link.frame = true) :
    commandByte b s = takeCrcByte b s := if_pos h

/-- A CRC byte that does not match is answered BAD_CRC (R178). -/
theorem takeCrcByte_of_ne {crc : Byte} {s : State} (h : crc8 s.link.frame ≠ crc) :
    takeCrcByte crc s = answerBadCrc (s.link.frame.headD 0x00) s := if_neg h

theorem takeCrcByte_of_eq {crc : Byte} {s : State} (h : crc8 s.link.frame = crc) :
    takeCrcByte crc s = takeFrame s.link.frame s := if_pos h

/-- The byte after a complete frame is its CRC byte (R176). -/
theorem exec_linkByte_crc (b : Byte) {s : State} (hout : s.inReset = false) (hphase : s.link.phase = .command)
    (hcomplete : frameComplete s.link.frame = true) :
    exec (.linkByte b) s = .next (takeCrcByte b (setDataOut 0xFF (quiet s))) := by
  rw [exec_linkByte b hout, takeByte_command (s := quiet s) hphase,
    commandByte_of_complete (s := setDataOut 0xFF (quiet s)) hcomplete]

/-- The BAD_CRC path answers and raises LINK_ERROR (R178). -/
theorem answerBadCrc_eq {s : State} (hlow : s.link.selected = true) (hff : s.link.dataOut = 0xFF) (code : Byte) :
    answerBadCrc code s = answered code .badCrc [] { s with events := eventsWith 0x800 s.events } := by
  have hlink : s.link = { s.link with selected := true, dataOut := 0xFF } := by rw [← hlow, ← hff]
  rw [answerBadCrc, raise_eq, setLastResult, openResponse, answered, hlink]
  rfl

/-- The UNKNOWN path answers, and raises no event (R178). -/
theorem answerUnknown_eq {s : State} (hlow : s.link.selected = true) (hff : s.link.dataOut = 0xFF) (code : Byte) :
    answerUnknown code s = answered code .unknown [] s := by
  have hlink : s.link = { s.link with selected := true, dataOut := 0xFF } := by rw [← hlow, ← hff]
  rw [answerUnknown, setLastResult, openResponse, answered, hlink]
  rfl

/-- A code not in Table 11-2 has no operand bytes, so the code alone is a complete frame (R176). -/
theorem frameComplete_of_unknown {code : Byte} (h : commandRow code = none) : frameComplete [code] = true := by
  simp [frameComplete, operandLength, h]

/-- A code not in Table 11-2 names no command (R178): the two tables of the model, `decodeFrame` and `commandRow`, read at
every one of the 256 codes. -/
theorem decodeFrame_of_unknown : ∀ code : Byte, commandRow code = none → decodeFrame [code] = none := by decide +kernel

theorem takeFrame_of_unknown {code : Byte} (h : commandRow code = none) (s : State) :
    takeFrame [code] s = answerUnknown code s := by
  rw [takeFrame, decodeFrame_of_unknown code h]
  rfl

/-! ### The link through its transaction states -/

/-- Settles O10: chip-select by the state it finds the link in, and a byte by the transaction state. -/
theorem linkFollowsItsTransactionState : Obligations.LinkFollowsItsTransactionState := by
  refine ⟨⟨?fall, ?rise, ?truncated⟩, fun b s hout => ⟨?joins, ?badCrc, ?unknown, ?response, ?trail, ?idle⟩⟩
  case fall => exact fun s hout hhigh => exec_chipSelectFall hout hhigh
  case rise =>
    intro edges s hout hlow h
    rw [exec_chipSelectRise edges hout hlow, riseSelect_untruncated (s := setSelected false (quiet s)) h]
    rfl
  case truncated =>
    intro edges s hout hlow hphase h
    rw [exec_chipSelectRise edges hout hlow, riseSelect_truncated (s := setSelected false (quiet s)) hphase h]
    rfl
  case joins =>
    intro hphase h
    rw [exec_linkByte b hout, takeByte_command (s := quiet s) hphase,
      commandByte_of_incomplete (s := setDataOut 0xFF (quiet s)) h]
    rfl
  case badCrc =>
    intro hphase hlow hcomplete hcrc
    rw [exec_linkByte_crc b hout hphase hcomplete, takeCrcByte_of_ne (s := setDataOut 0xFF (quiet s)) hcrc,
      answerBadCrc_eq (s := setDataOut 0xFF (quiet s)) hlow rfl]
    rfl
  case unknown =>
    intro code hphase hlow hframe hrow hcrc
    have hreceived : (setDataOut 0xFF (quiet s)).link.frame = [code] := hframe
    rw [exec_linkByte_crc b hout hphase (hframe ▸ frameComplete_of_unknown hrow), takeCrcByte_of_eq (hreceived ▸ hcrc),
      hreceived, takeFrame_of_unknown hrow, answerUnknown_eq (s := setDataOut 0xFF (quiet s)) hlow rfl]
    rfl
  case response =>
    intro r rest hphase h
    rw [exec_linkByte b hout, takeByte_response (s := quiet s) hphase, responseByte_of_cons (s := quiet s) hphase h]
    rfl
  case trail =>
    intro hphase
    rw [exec_linkByte b hout, takeByte_trail (s := quiet s) hphase]
    rfl
  case idle =>
    intro hphase
    rw [exec_linkByte b hout, takeByte_idle (s := quiet s) hphase]
    rfl

end Sys2Proof.Machine
end

section
/-! SUPPORT. What the events and the commands of the part are made of. Every event but a reset, a link reset, an arrival and
a grant, and every management command, is a chain of few acts, each of which keeps the laws of the part by itself; the
laws over every step then look at the acts alone. -/

namespace Sys2Proof.Machine

-- One proof at a time, as in the sections before.
set_option Elab.async false

/-! ### The acts -/

/-- All that the laws read is left: free are the event set with its mask and the ALERT line, the levels of MEMRDY and SYNC,
the data output and the last result of the link, and the count of the clock. -/
structure Same (s t : State) : Prop where
  ports : t.ports = s.ports := by rfl
  plans : t.plans = s.plans := by rfl
  check : t.check = s.check := by rfl
  sched : t.sched = s.sched := by rfl
  posted : t.posted = s.posted := by rfl
  mem : { t.mem with memrdy := s.mem.memrdy } = s.mem := by rfl
  sync : { t.sync with level := s.sync.level } = s.sync := by rfl
  faults : t.events.faults = s.events.faults := by rfl
  phase : t.link.phase = s.link.phase := by rfl
  selected : t.link.selected = s.link.selected := by rfl
  frame : t.link.frame = s.link.frame := by rfl
  response : t.link.response = s.link.response := by rfl
  resetting : t.link.resetting = s.link.resetting := by rfl
  resetDue : t.link.resetDue = s.link.resetDue := by rfl
  device : t.device = s.device := by rfl
  inReset : t.inReset = s.inReset := by rfl
  out : t.out = s.out := by rfl

/-- The device settings are in the ranges of Table 11-6. -/
def DeviceRange (d : Device) : Prop :=
  d.divider ∈ [1, 2, 4, 8, 16, 32, 64, 128, 256] ∧ d.limit ≤ 65535 ∧ 1 ≤ d.pulse ∧ d.pulse ≤ 255

/-- The gate admits an entry to STOPPED: it walks or is armed, and no swap is pending while it walks (R30, R36, R37). -/
def MayStop (s : State) : Prop :=
  (walking s = true ∨ s.sched.gate = .armed) ∧ (walking s = true → s.sched.pendingSwap = none)

/-- The gate admits an entry to RUNNING: by START in STOPPED with a plan ACTIVE and no RESET GATE, or from ARMED (R33, R34). -/
def MayRun (s : State) : Prop :=
  s.sched.gate = .armed ∨ (s.sched.gate = .stopped ∧ s.link.resetting = false ∧ activePlan s ≠ none)

/-- The plan takes new contents: it is not CHECKING, not READY and the pending swap target, and not ACTIVE
(R10, R17). -/
structure TakesContents (s : State) (n : PlanName) : Prop where
  checking : (s.plans.get n).state ≠ .checking
  swap : (s.plans.get n).state = .ready → s.sched.pendingSwap ≠ some n
  active : (s.plans.get n).state ≠ .active ∨ activePlan s = some n.other

/-- One act of the part. -/
inductive Act (s : State) : State → Prop
  | same {t : State} (h : Same s t) : Act s t
  | tickDeadlines : Act s (tickDeadlines s)
  | tickMemory : Act s (tickMemory s)
  | tickCheck : Act s (tickCheck s)
  | tickReset : Act s (tickReset s)
  | oweWalk (h : expiryDue s = true) : Act s { s with sched := { s.sched with walkOwed := true } }
  | endPulses : Act s { s with sched := { s.sched with frameLine := false, walkOwed := false } }
  | advance (hw : walking s = true) (h : expiryDue s = false) :
      Act s { s with sched := { s.sched with offset := s.sched.offset + 1 } }
  | nextWindow (hw : walking s = true) (h : s.sched.window + 1 < (governing s).windowCount) :
      Act s { s with sched := { s.sched with
        window := s.sched.window + 1
        offset := 0
        openLines := (windowAt (governing s) (s.sched.window + 1)).openSet } }
  | nextFrame (hw : walking s = true) : Act s (nextFrame s)
  | swap {n : PlanName} (hw : walking s = true) (h : s.sched.pendingSwap = some n)
      (hstart : s.sched.window = 0 ∧ s.sched.offset = 0) :
      Act s (enteredFrom (swappedTo n { s with sched := { s.sched with pendingSwap := none } }))
  | beginFrame (hw : walking s = true) : Act s (beginFrame s)
  | rewind (hw : walking s = true) : Act s (rewind s)
  | stop (h : MayStop s) : Act s (stoppedFrom s)
  | run (h : MayRun s) : Act s (runningFrom s)
  | late (p : Port) {h : Held} (hfind : (s.ports.get p).queue.find? expired = some h) : Act s (expireOne p s)
  | complete {n : PlanName} {f : Option CheckFailure} {d : Derived} (h : s.check = some ⟨n, .finish f, d, true⟩) :
      Act s (raise .checkDone (mapPlan n (checkedPlan d f) { s with check := none }))
  | fail (why : FailureKind) (h : s.mem.state = .ready) : Act s (failedFrom why s)
  | respond {e : IssueEntry} {rest : List IssueEntry} (m : MemResponse) (h : s.mem.state = .ready)
      (hlist : s.mem.issueList = e :: rest) (htag : m.tag = e.issueTag) : Act s (completeEntry e m (withIssues rest s))
  | endPulse (h : s.mem.recovery = .pulse 0) :
      Act s { s with mem := { s.mem with memrst := false, recovery := .wait (readyWaitLimit s) } }
  | recovered {n : Nat} (h : s.mem.recovery = .wait n) : Act s (stoppedFrom (endRecovery .ready .succeeded s))
  | endWait {n : Nat} (h : s.mem.recovery = .wait n) : Act s (endRecovery .failed .failed s)
  | resetStep (h : s.link.resetDue = true) : Act s (resetStep s)
  | capture : Act s { s with sync := { s.sync with capture := captureOf s } }
  | captureTaken (valid : Bool) :
      Act s { s with sync := { s.sync with capture := { s.sync.capture with valid := valid } } }
  | emptyFault (p : Port) : Act s (emptyFault p s)
  | setSync (mode : SyncMode) (edge : SyncEdge) {limit : Nat} (h : limit ≤ 4095) :
      Act s { s with sync := { s.sync with mode := mode, edge := edge, limit := limit } }
  | setDevice {d : Device} (h : DeviceRange d) :
      Act s (if s.device.bootPass && !d.bootPass then clearQueue .closed .p0 (setDevice d s) else setDevice d s)
  | write {n : PlanName} {p : Plan} (h : TakesContents s n) (hp : p.state = .edit ∧ p.report = .none)
      (hrange : (∀ m, PlanRange (s.plans.get m)) → PlanRange p) : Act s { s with plans := s.plans.set n p }
  | beginCheck {n : PlanName} (hactive : (s.plans.get n).state ≠ .active) (hswap : s.sched.pendingSwap ≠ some n)
      (hcheck : s.check = none) :
      Act s { s with
        plans := s.plans.set n { s.plans.get n with state := .checking, report := .none }
        check := some ⟨n, firstPoint (s.plans.get n), Derived.zero, false⟩ }
  | activate {n : PlanName} (hg : s.sched.gate = .stopped) (h : (s.plans.get n).state = .ready) : Act s (swappedTo n s)
  | pend {n : PlanName} (hg : s.sched.gate = .running) (h : (s.plans.get n).state = .ready) :
      Act s { s with sched := { s.sched with pendingSwap := some n } }
  | withdraw : Act s (withdrawPending s)
  | arm (hg : s.sched.gate = .stopped) (hopen : s.link.resetting = false) (ha : activePlan s ≠ none) : Act s { s with sched := { s.sched with gate := .armed, startOnSync := true } }
  | halt (hg : s.sched.gate = .running) : Act s { s with sched := { s.sched with gate := .halting, pendingHalt := true } }
  | recover (hg : s.sched.gate = .faulted) : Act s { s with mem := { s.mem with
      state := .resetting
      memrst := true
      recovery := .pulse s.device.pulse
      report := { s.mem.report with outcome := .inProgress } } }
  | beginReset (hg : s.sched.gate = .stopped) : Act s (beginReset s)

/-- A chain of acts. -/
inductive Acts (s : State) : State → Prop
  | refl : Acts s s
  | tail {t u : State} (before : Acts s t) (h : Act t u) : Acts s u

namespace Acts

theorem one {s t : State} (h : Act s t) : Acts s t := .tail .refl h

theorem same {s t : State} (h : Same s t) : Acts s t := .one (.same h)

theorem trans {s t u : State} (h : Acts s t) (h' : Acts t u) : Acts s u := by
  induction h' with
  | refl => exact h
  | tail _ ha ih => exact ih.tail ha

/-- What every act keeps, a chain of acts keeps. -/
theorem keeps {P : State → Prop} (h : ∀ {s t : State}, Act s t → P s → P t) {s t : State} (hc : Acts s t) (hs : P s) : P t := by
  induction hc with
  | refl => exact hs
  | tail _ ha ih => exact h ha ih

theorem ite {c : Prop} [Decidable c] {s t u : State} (ht : c → Acts s t) (hu : ¬ c → Acts s u) :
    Acts s (if c then t else u) := by
  split
  · exact ht ‹_›
  · exact hu ‹_›

theorem foldl {α : Type} {f : State → α → State} (h : ∀ s a, Acts s (f s a)) (l : List α) (s : State) :
    Acts s (l.foldl f s) := by
  induction l generalizing s with
  | nil => exact .refl
  | cons a l ih => exact (h s a).trans (ih _)

end Acts

/-! ### The walk -/

theorem MayStop.of_walking {s : State} (hw : walking s = true) (hp : s.sched.pendingSwap = none) : MayStop s :=
  ⟨.inl hw, fun _ => hp⟩

theorem makeSwap_acts {s : State} (hw : walking s = true) (hstart : s.sched.window = 0 ∧ s.sched.offset = 0) :
    Acts s (makeSwap s) := by
  cases hp : s.sched.pendingSwap with
  | none =>
    rw [makeSwap_of_none hp]
    exact .refl
  | some n =>
    rw [makeSwap_of_some hp]
    exact (Acts.one (.swap hw hp hstart)).trans (.same {})

/-- A frame boundary: the next frame, the pending swap, and then the stop or the frame begun (R30). -/
theorem frameBoundary_acts {s : State} (hw : walking s = true) : Acts s (frameBoundary s) := by
  have hw' : walking (makeSwap (nextFrame s)) = true := by
    unfold walking
    rw [makeSwap_sched]
    exact hw
  have hswap : (makeSwap (nextFrame s)).sched.pendingSwap = none := by rw [makeSwap_sched]
  refine (Acts.one (.nextFrame hw)).trans ((makeSwap_acts (s := nextFrame s) hw ⟨rfl, rfl⟩).trans ?_)
  refine .ite (fun _ => ?_) (fun _ => .one (.beginFrame hw'))
  rw [enterStopped_eq]
  exact .one (.stop (.of_walking hw' hswap))

theorem expireWindow_acts {s : State} (hw : walking s = true) : Acts s (expireWindow s) :=
  .ite (fun h => .one (.nextWindow hw h)) (fun _ => frameBoundary_acts hw)

theorem takeWalkTick_acts (s : State) : Acts s (takeWalkTick s) := by
  refine (Acts.one .endPulses).trans ?_
  refine .ite (fun _ => .refl) (fun hw => ?_)
  rw [Bool.not_eq_true, Bool.not_eq_false'] at hw
  exact .ite (fun _ => expireWindow_acts hw) (fun h => .one (.advance hw (Bool.not_eq_true _ ▸ h)))

theorem takeOwedWalk_acts (s : State) : Acts s (takeOwedWalk s) :=
  .ite (fun _ => takeWalkTick_acts s) (fun _ => .refl)

theorem tickWalk_acts (s : State) : Acts s (tickWalk s) :=
  .ite (fun h => .one (.oweWalk h)) (fun _ => takeWalkTick_acts s)

/-! ### What a gate tick makes due -/

theorem expireOne_acts (p : Port) (s : State) : Acts s (expireOne p s) := by
  cases hfind : (s.ports.get p).queue.find? expired with
  | none =>
    have hsame : expireOne p s = s := by simp [expireOne, hfind]
    rw [hsame]
    exact .refl
  | some h => exact .one (.late p hfind)

theorem expireAll_acts (s : State) : Acts s (expireAll s) :=
  .foldl (fun s p => .foldl (fun s _ => expireOne_acts p s) _ s) _ s

theorem completeCheck_acts (s : State) : Acts s (completeCheck s) := by
  unfold completeCheck
  split
  · rename_i h; exact .one (.complete h)
  · exact .refl

theorem ready_of_overdue {s : State} (h : overdue s = true) : s.mem.state = .ready := by
  simp only [overdue, Bool.and_eq_true, decide_eq_true_eq] at h
  exact h.1.1

theorem timeoutTest_acts (s : State) : Acts s (timeoutTest s) :=
  .ite (fun h => memoryFailure_eq .timeout s ▸ .one (.fail .timeout (ready_of_overdue h))) (fun _ => .refl)

theorem recoverySucceeds_acts {s : State} {n : Nat} (h : s.mem.recovery = .wait n) : Acts s (recoverySucceeds s) := by
  unfold recoverySucceeds
  rw [enterStopped_eq]
  exact .one (.recovered h)

theorem endPulse_acts (s : State) : Acts s (endPulse s) := by
  refine .ite (fun h => (Acts.one (.endPulse h)).trans ?_) (fun _ => .refl)
  exact .ite (fun _ => recoverySucceeds_acts rfl) (fun _ => .refl)

theorem memrdyRises_acts (s : State) : Acts s (memrdyRises s) := by
  unfold memrdyRises
  split
  · rename_i h; exact recoverySucceeds_acts h
  · exact .refl
  · exact .refl

theorem expireReadyWait_acts (s : State) : Acts s (expireReadyWait s) :=
  .ite (fun h => .one (.endWait h)) (fun _ => .refl)

theorem takeResetStep_acts (s : State) : Acts s (takeResetStep s) :=
  .ite (fun h => .one (.resetStep h)) (fun _ => .refl)

theorem takeDue_acts (s : State) : Acts s (takeDue s) :=
  (takeOwedWalk_acts s).trans <| (expireAll_acts _).trans <| (completeCheck_acts _).trans <| (timeoutTest_acts _).trans <|
    (endPulse_acts _).trans <| (expireReadyWait_acts _).trans <| takeResetStep_acts _

theorem gateTick_acts (s : State) : Acts s (gateTick s) := by
  have hcount (t : State) : Acts t { t with ticked := 0 } := .same {}
  refine (takeDue_acts s).trans ((hcount _).trans ((tickWalk_acts _).trans ?_))
  exact ((Acts.one .tickDeadlines).tail .tickMemory).tail .tickCheck |>.tail .tickReset

theorem countCycle_acts (s : State) : Acts s (countCycle s) :=
  .ite (fun _ => .same {}) (fun _ => (gateTick_acts s).trans (takeDue_acts _))

/-! ### SYNC edges and memory responses -/

theorem seenEdge_acts (e : SyncEdge) (s : State) : Acts s (seenEdge e s) := by
  refine .ite (fun _ => ?_) (fun _ => .refl)
  have hseen : Acts s (raise .syncCaptured { s with sync := { s.sync with capture := captureOf s } }) :=
    (Acts.one .capture).tail (.same {})
  refine hseen.trans ?_
  unfold selectedEdge actOnOutcome
  cases ho : edgeOutcome s with
  | started => exact enterRunning_eq _ ▸ .one (.run (.inl (edgeOutcome_started ho)))
  | earlyCut => exact frameBoundary_acts (walking_of_edgeOutcome (.inl ho))
  | lateRewind => exact .one (.rewind (walking_of_edgeOutcome (.inr ho)))
  | outOfLimit => exact .same {}
  | none => exact .refl
  | observed => exact .refl
  | inStep => exact .refl

theorem takeResponse_acts (m : MemResponse) (s : State) : Acts s (takeResponse m s) := by
  unfold takeResponse
  split
  · exact .refl
  · exact .refl
  · rename_i hready
    split
    · exact memoryFailure_eq .order s ▸ .one (.fail .order hready)
    · rename_i e rest hlist
      refine .ite (fun htag => ?_) (fun _ => memoryFailure_eq .order s ▸ .one (.fail .order hready))
      exact (Acts.one (.respond m hready hlist htag)).trans (timeoutTest_acts _)

/-! ### The management commands -/

theorem setDevice_acts {d : Device} (h : DeviceRange d) (s : State) : Acts s (applyDevice d s) := by
  have hset := Acts.one (.setDevice (s := s) h)
  exact .ite (fun _ => hset) (fun _ => hset.trans (timeoutTest_acts _))

/-- A divider code up to 8 stands for a power of 2 up to 256 (Table 11-3). -/
theorem dividerOf_range {b : Byte} {d : Nat} (h : dividerOf b = some d) : d ∈ [1, 2, 4, 8, 16, 32, 64, 128, 256] := by
  unfold dividerOf at h
  split_ifs at h with hb
  obtain rfl := Option.some.inj h
  have hb : b.toNat ≤ 8 := hb
  generalize b.toNat = k at hb
  interval_cases k <;> decide

theorem takeSetDevice_acts (d : Byte) (l : BitVec 16) (p b : Byte) (s : State) : Acts s (takeSetDevice d l p b s).1 := by
  unfold takeSetDevice
  split
  · rename_i divider _ hd _
    split_ifs with hp
    · exact .refl
    · exact .refl
    · have hpulse : p.toNat ≠ 0 := fun h => hp (BitVec.eq_of_toNat_eq h)
      exact setDevice_acts ⟨dividerOf_range hd, by simp only; omega, by simp only; omega, by simp only; omega⟩ s
  · exact .refl

theorem takeSetSync_acts (m e : Byte) (l : BitVec 16) (s : State) : Acts s (takeSetSync m e l s).1 := by
  unfold takeSetSync
  split
  · split_ifs with hl
    · exact .refl
    · exact .refl
    · exact .one (.setSync _ _ (not_lt.mp hl))
  · exact .refl

theorem takeReadFault_acts (port take : Byte) (s : State) : Acts s (takeReadFault port take s).1 := by
  unfold takeReadFault
  split
  · exact .ite (fun _ => .one (.emptyFault _)) (fun _ => .refl)
  · exact .refl

theorem takeReadSync_acts (take : Byte) (s : State) : Acts s (takeReadSync take s).1 := by
  unfold takeReadSync
  split
  · exact .refl
  · rename_i taking _
    cases taking with
    | false => exact .same {}
    | true => exact .one (.captureTaken false)

/-! ### The plan commands -/

theorem takesContents_of_writable {s : State} {n : PlanName} (h : Writable s n) : TakesContents s n := by
  rcases h with h | ⟨h, hswap⟩
  · exact ⟨by simp [h], by simp [h], .inl (by simp [h])⟩
  · exact ⟨by simp [h], fun _ => hswap, .inl (by simp [h])⟩

/-- What the change of a plan write makes of a plan in range is in range (R11 to R16). -/
def KeepsRange (change : Option (Plan → Plan)) : Prop :=
  ∀ f, change = some f → ∀ p, PlanRange p → PlanRange (f p)

theorem toEdit_range {p : Plan} (h : PlanRange p) : PlanRange (toEdit p) := by
  obtain ⟨hw, hr, ho, hb, hws, hrs, hset, hd, -⟩ := h
  exact ⟨hw, hr, ho, hb, hws, hrs, hset, hd, trivial⟩

theorem mem_setIfInBounds {α : Type} {n i : Nat} {v : Vector α n} {x y : α} (h : y ∈ (v.setIfInBounds i x).toList) :
    y ∈ v.toList ∨ y = x := by
  rw [Vector.toList_setIfInBounds] at h
  exact List.mem_or_eq_of_mem_set h

theorem windowChange_keepsRange (i : Byte) (l : BitVec 16) (o d : Byte) : KeepsRange (windowChange i l o d) := by
  rintro f hf p ⟨hw, hr, ho, hb, hws, hrest⟩
  unfold windowChange at hf
  split_ifs at hf
  obtain rfl := Option.some.inj hf
  refine ⟨hw, hr, ho, hb, fun w hmem => ?_, hrest⟩
  obtain hmem | rfl := mem_setIfInBounds hmem
  · exact hws w hmem
  · have := l.isLt
    simp only
    omega

theorem windowCountChange_keepsRange (k : Byte) : KeepsRange (windowCountChange k) := by
  rintro f hf p ⟨-, hrest⟩
  unfold windowCountChange at hf
  split_ifs at hf with hk
  obtain rfl := Option.some.inj hf
  exact ⟨hk, hrest⟩

theorem regionChange_keepsRange (i : Byte) (base : Addr) (size : BitVec 40) (rights posting : Byte) :
    KeepsRange (regionChange i base size rights posting) := by
  rintro f hf p ⟨hw, hr, ho, hb, hws, hrs, hrest⟩
  unfold regionChange at hf
  split at hf
  · cases hf
  · split_ifs at hf with hin
    obtain ⟨-, hbase, hsize⟩ := hin
    obtain ⟨-, hmod, hle⟩ := (sizeInRange_iff size).mp hsize
    obtain rfl := Option.some.inj hf
    refine ⟨hw, hr, ho, hb, hws, fun r hmem => ?_, hrest⟩
    obtain hmem | rfl := mem_setIfInBounds hmem
    · exact hrs r hmem
    · exact ⟨hbase, hmod, hle⟩

theorem regionCountChange_keepsRange (k : Byte) : KeepsRange (regionCountChange k) := by
  rintro f hf p ⟨hw, -, hrest⟩
  unfold regionCountChange at hf
  split_ifs at hf with hk
  obtain rfl := Option.some.inj hf
  exact ⟨hw, hk, hrest⟩

theorem settingsChange_keepsRange (port : Byte) (l : BitVec 16) (q : Byte) : KeepsRange (settingsChange port l q) := by
  rintro f hf p ⟨hw, hr, ho, hb, hws, hrs, hset, hrest⟩
  unfold settingsChange at hf
  split at hf
  · cases hf
  · split_ifs at hf with hq
    obtain rfl := Option.some.inj hf
    refine ⟨hw, hr, ho, hb, hws, hrs, fun x => ?_, hrest⟩
    have := l.isLt
    rw [PerPort.get_set]
    split_ifs
    · exact ⟨by simp only; omega, hq⟩
    · exact hset x

theorem costsChange_keepsRange (o b : Byte) : KeepsRange (costsChange o b) := by
  rintro f hf p ⟨hw, hr, -, -, hrest⟩
  unfold costsChange at hf
  split_ifs at hf with h
  obtain rfl := Option.some.inj hf
  exact ⟨hw, hr, h.1, h.2, hrest⟩

theorem planWrite_acts (plan : Byte) {change : Option (Plan → Plan)} (h : KeepsRange change) (s : State) :
    Acts s (planWrite plan change s).1 := by
  unfold planWrite
  split
  · exact .refl
  · split
    · exact .refl
    · exact .refl
    · rename_i hw
      exact .one (.write (takesContents_of_writable (writable_of_writeRefusal hw)) ⟨rfl, rfl⟩
        fun hr => toEdit_range (h _ rfl _ (hr _)))

theorem takeCopyPlan_acts (s : State) : Acts s (takeCopyPlan s).1 := by
  simp only [takeCopyPlan]
  split
  · exact .refl
  · rename_i n hn
    split_ifs with hchecking hswap
    · exact .refl
    · exact .refl
    · have hother : activePlan s = some n.other.other := by cases n <;> exact hn
      exact .one (.write ⟨hchecking, fun _ => hswap, .inr hother⟩ ⟨rfl, rfl⟩ fun hr => toEdit_range (hr n))

theorem takeCheckPlan_acts (plan : Byte) (s : State) : Acts s (takeCheckPlan plan s).1 := by
  simp only [takeCheckPlan]
  split
  · exact .refl
  · rename_i n _
    split_ifs with hcheck hactive hswap
    · exact .refl
    · exact .refl
    · exact .refl
    · exact .one (.beginCheck hactive hswap (by simpa using hcheck))

theorem takeReadPlanItem_acts (n t i : Byte) (s : State) : Acts s (takeReadPlanItem n t i s).1 := by
  unfold takeReadPlanItem
  split
  · exact .refl
  · split <;> exact .refl

theorem takeTakeEvents_acts (m : BitVec 16) (s : State) : Acts s (takeTakeEvents m s).1 := by
  unfold takeTakeEvents
  split
  · exact .refl
  · exact .same {}

theorem takeSetAlerts_acts (m : BitVec 16) (s : State) : Acts s (takeSetAlerts m s).1 := by
  unfold takeSetAlerts
  split
  · exact .refl
  · exact .same {}

/-! ### The gate commands -/

theorem takeRequestSwap_acts (plan : Byte) (s : State) : Acts s (takeRequestSwap plan s).1 := by
  unfold takeRequestSwap
  split
  · exact .refl
  · rename_i n _
    split
    · rename_i hg
      unfold swapStopped
      split_ifs with hready
      · rw [activate_eq]
        exact (Acts.one (.activate hg hready)).trans (.same {})
      · exact .refl
    · rename_i hg
      unfold swapRunning
      split_ifs with hactive hready hpending
      · exact .refl
      · exact .refl
      · exact .refl
      · exact .one (.pend hg (not_not.mp hready))
    · exact .refl
    · exact .refl
    · exact .refl

theorem takeStart_acts (mode : Byte) {s : State} (hopen : s.link.resetting = false) : Acts s (takeStart mode s).1 := by
  unfold takeStart
  split_ifs with _ hg hplan
  · exact .refl
  · exact .refl
  · exact .refl
  · exact enterRunning_eq s ▸ .one (.run (.inr ⟨not_not.mp hg, hopen, hplan⟩))
  · exact .refl
  · exact .one (.arm (not_not.mp hg) hopen hplan)

theorem enterStopped_acts {s : State} (h : MayStop s) : Acts s (enterStopped s) := enterStopped_eq s ▸ .one (.stop h)

/-- The gate is armed and does not walk. -/
theorem mayStop_of_armed {s : State} (hg : s.sched.gate = .armed) : MayStop s :=
  ⟨.inr hg, fun hw => by simp [walking, hg] at hw⟩

theorem takeHalt_acts (s : State) : Acts s (takeHalt s).1 := by
  unfold takeHalt
  split
  · rename_i hg; exact .one (.halt hg)
  · exact .refl
  · rename_i hg; exact enterStopped_acts (mayStop_of_armed hg)
  · exact .refl
  · exact .refl

theorem takeHaltNow_acts (s : State) : Acts s (takeHaltNow s).1 := by
  have stops (h : walking s = true ∨ s.sched.gate = .armed) : Acts s (enterStopped (withdrawPending s)) :=
    (Acts.one .withdraw).trans (enterStopped_acts ⟨h, fun _ => rfl⟩)
  unfold takeHaltNow
  split
  · rename_i hg; exact stops (.inl (by simp [walking, hg]))
  · rename_i hg; exact stops (.inl (by simp [walking, hg]))
  · rename_i hg; exact stops (.inr hg)
  · exact .refl
  · exact .refl

theorem takeRecover_acts (s : State) : Acts s (takeRecover s).1 := by
  unfold takeRecover
  split_ifs with _ hg
  · exact .refl
  · exact .refl
  · exact .one (.recover (not_not.mp hg))

theorem takeResetGate_acts (s : State) : Acts s (takeResetGate s).1 := by
  unfold takeResetGate
  split
  · exact .refl
  · exact .refl
  · exact .refl
  · rename_i hg
    have hstopped : (enterStopped s).sched.gate = .stopped := by rw [enterStopped_sched]; rfl
    exact (enterStopped_acts (mayStop_of_armed hg)).tail (.beginReset hstopped)
  · rename_i hg; exact .one (.beginReset hg)

/-- The rule of every management command is a chain of acts; it runs with no RESET GATE in progress, STATUS apart (R181). -/
theorem commandRule_acts {c : Instr} {rule : State → State × Reply} (hc : commandRule c = some rule) {s : State}
    (hopen : s.link.resetting = true → c = .status) : Acts s (rule s).1 := by
  cases c <;> cases hc
  case status => exact .refl
  case takeEvents => exact takeTakeEvents_acts _ s
  case readFault => exact takeReadFault_acts _ _ s
  case readSync => exact takeReadSync_acts _ s
  case readRecoveryReport => exact .refl
  case setAlerts => exact takeSetAlerts_acts _ s
  case setDevice => exact takeSetDevice_acts _ _ _ _ s
  case setSync => exact takeSetSync_acts _ _ _ s
  case writeWindow => exact planWrite_acts _ (windowChange_keepsRange _ _ _ _) s
  case setWindowCount => exact planWrite_acts _ (windowCountChange_keepsRange _) s
  case writeRegion => exact planWrite_acts _ (regionChange_keepsRange _ _ _ _ _) s
  case setRegionCount => exact planWrite_acts _ (regionCountChange_keepsRange _) s
  case writePortSettings => exact planWrite_acts _ (settingsChange_keepsRange _ _ _) s
  case writeCosts => exact planWrite_acts _ (costsChange_keepsRange _ _) s
  case readPlanItem => exact takeReadPlanItem_acts _ _ _ s
  case copyPlan => exact takeCopyPlan_acts s
  case checkPlan => exact takeCheckPlan_acts _ s
  case requestSwap => exact takeRequestSwap_acts _ s
  case withdrawSwap => exact .one .withdraw
  case start => exact takeStart_acts _ (Bool.eq_false_iff.mpr fun h => Instr.noConfusion (hopen h))
  case halt => exact takeHalt_acts s
  case haltNow => exact takeHaltNow_acts s
  case recover => exact takeRecover_acts s
  case resetGate => exact takeResetGate_acts s

/-! ### Every command and the reference clock -/

/-- All that the laws read is left, but for the transaction on the link and what was presented. -/
structure Still (s t : State) : Prop extends Idle s t where
  faults : t.events.faults = s.events.faults := by rfl

theorem Still.refl (s : State) : Still s s := { Idle.refl s with }

theorem Still.trans {s t u : State} (h : Still s t) (h' : Still t u) : Still s u :=
  { h.toIdle.trans h'.toIdle with faults := h'.faults.trans h.faults }

theorem quiet_still (s : State) : Still s (quiet s) := { quiet_idle s with }

theorem receiveFrame_still (frame : List Byte) (s : State) : Still s (receiveFrame frame s) := { receiveFrame_idle frame s with }

theorem setLinkReset_still (p : Port) (level : Bool) (s : State) : Still s (setLinkReset p level s) :=
  { setLinkReset_idle p level s with }

theorem answerCommand_still (code : Byte) (r : Reply) (s : State) : Still s (answerCommand code r s) := by
  unfold answerCommand
  split <;> exact {}

theorem answerCommand_out (code : Byte) (r : Reply) (s : State) : (answerCommand code r s).out = s.out := by
  unfold answerCommand
  split <;> rfl

theorem riseSelect_still (edges : Fin 8) (s : State) : Still s (riseSelect edges s) := by
  unfold riseSelect
  split
  · split <;> exact {}
  · exact {}
  · exact {}
  · exact {}

theorem riseSelect_out (edges : Fin 8) (s : State) : (riseSelect edges s).out = s.out := by
  unfold riseSelect
  split
  · split <;> rfl
  · rfl
  · rfl
  · rfl

theorem responseByte_still (s : State) : Still s (responseByte s) := by
  unfold responseByte
  split <;> exact {}

theorem responseByte_out (s : State) : (responseByte s).out = s.out := by
  unfold responseByte
  split <;> rfl

/-- What a command, or without one the reference clock, makes of the part: a chain of acts between moves of the link and the
pins, or one of the five events that are no chain of acts. -/
inductive Taken (s : State) : Option Instr → State → Prop
  | acts {c : Option Instr} {u v t : State} (before : Still s u) (hquiet : u.out = Outputs.none) (h : Acts u v)
      (after : Still v t) (hout : t.out = v.out) : Taken s c t
  | powerOn : Taken s (some .por) (resetWith State.reset.plans s)
  | pinReset : Taken s (some .rst) (resetWith (plansAfterReset s.plans) s)
  | linkReset {p : Port} {u : State} (before : Still s u) (hquiet : u.out = Outputs.none) :
      Taken s (some (.linkReset p)) (resetPort p u)
  | arrival {p : Port} {r : Request} {u : State} (before : Still s u) (hquiet : u.out = Outputs.none)
      (hready : portReady u p = true) (hr : r.wellFormed = true) : Taken s (some (.requestArrival p r)) (acceptRequest p r u)
  | grant {memReady : Bool} {u : State} (before : Still s u) (hquiet : u.out = Outputs.none) :
      Taken s (some (.grant memReady)) (decideGrant memReady u)

namespace Taken

theorem still {c : Option Instr} {s t : State} (h : Still s t) (hquiet : t.out = Outputs.none) : Taken s c t :=
  .acts h hquiet .refl (.refl t) rfl

theorem chain {c : Option Instr} {s u t : State} (before : Still s u) (hquiet : u.out = Outputs.none) (h : Acts u t) :
    Taken s c t := .acts before hquiet h (.refl t) rfl

theorem onEvent {c : Option Instr} {f : State → State} {s u t : State} (hu : Still s u)
    (hf : ∀ v, Still s v → v.out = Outputs.none → Taken s c (f v)) (ht : onEvent f u = .next t) : Taken s c t := by
  have hquiet : Still s (quiet u) := hu.trans (quiet_still u)
  cases ht
  split
  · exact still hquiet rfl
  · exact hf _ hquiet rfl

/-- An event that is a chain of acts reaches the part. -/
theorem event {c : Option Instr} {f : State → State} {s u t : State} (hu : Still s u) (hf : ∀ v, Acts v (f v))
    (ht : Machine.onEvent f u = .next t) : Taken s c t := onEvent hu (fun v hv hq => chain hv hq (hf v)) ht

theorem frameStep {c : Option Instr} {frame : List Byte} {f : State → State} {s t : State}
    (hf : ∀ v, Still s v → v.out = Outputs.none → Taken s c (f v)) (ht : frameStep frame f s = .next t) : Taken s c t := by
  refine onEvent (.refl s) (fun v hv hq => ?_) ht
  split
  · exact hf _ (hv.trans (receiveFrame_still frame v)) hq
  · exact still hv hq

theorem takeCommand {o : Option Instr} {c : Instr} {rule : State → State × Reply} {code : Byte} {s u : State}
    (hc : commandRule c = some rule) (hcode : code = statusCode → c = .status) (hu : Still s u) (hquiet : u.out = Outputs.none) :
    Taken s o (takeCommand code rule u) := by
  unfold Machine.takeCommand
  split
  · exact still (hu.trans (answerCommand_still _ _ u)) ((answerCommand_out _ _ u).trans hquiet)
  · rename_i hopen
    refine .acts hu hquiet (commandRule_acts hc fun hr => hcode ?_) (answerCommand_still _ _ _) (answerCommand_out _ _ _)
    simpa [hr] using hopen

theorem takeFrame {o : Option Instr} {frame : List Byte} {s u : State} (hu : Still s u) (hquiet : u.out = Outputs.none) :
    Taken s o (takeFrame frame u) := by
  simp only [Machine.takeFrame]
  split
  · rename_i rule hrule
    obtain ⟨c, hframe, hc⟩ := Option.bind_eq_some_iff.mp hrule
    refine takeCommand hc (fun hcode => ?_) hu hquiet
    cases frame with
    | nil => cases hframe
    | cons code operands => exact decodeFrame_status (operands := operands) (hcode ▸ hframe)
  · exact still (hu.trans {}) hquiet

/-- The byte that completes a frame takes its command; every other byte moves the link alone (R176, R178). -/
theorem takeByte {o : Option Instr} {b : Byte} {s u : State} (hu : Still s u) (hquiet : u.out = Outputs.none) :
    Taken s o (takeByte b u) := by
  have hoff : Still s (setDataOut 0xFF u) := hu.trans {}
  unfold Machine.takeByte
  split
  · exact still hu hquiet
  · unfold commandByte takeCrcByte
    split_ifs
    · exact takeFrame hoff hquiet
    · exact still (hoff.trans {}) hquiet
    · exact still (hoff.trans {}) hquiet
  · exact still (hu.trans (responseByte_still u)) ((responseByte_out u).trans hquiet)
  · exact still hoff hquiet

theorem commandStep {o : Option Instr} {c : Instr} {rule : State → State × Reply} {s t : State}
    (hc : commandRule c = some rule) (ht : commandStep c rule s = .next t) : Taken s o t := by
  unfold Machine.commandStep at ht
  split at ht
  · rename_i code operands hframe
    exact frameStep (fun v => takeCommand hc fun hcode => encodeFrame_status (hcode ▸ hframe)) ht
  · cases ht
    exact still (quiet_still s) rfl

end Taken

/-- The rows of the table that are no management command. -/
theorem exec_event_taken {c : Instr} (hc : commandRule c = none) {s t : State} (ht : exec c s = .next t) :
    Taken s (some c) t := by
  have hrefl := Still.refl s
  have hquiet {o : Option Instr} : Taken s o (quiet s) := .still (quiet_still s) rfl
  cases c <;> cases hc
  case por => cases ht; exact .powerOn
  case rst => cases ht; exact .pinReset
  case linkReset p =>
    simp only [exec, execLinkReset] at ht
    split at ht
    · cases ht; exact hquiet
    · exact .onEvent (setLinkReset_still p true s) (fun _ hv hq => .linkReset hv hq) ht
  case linkResetRelease p => cases ht; exact .still ((setLinkReset_still p false s).trans (quiet_still _)) rfl
  case gateTick => exact .event hrefl gateTick_acts ht
  case windowExpiry => exact .event hrefl takeOwedWalk_acts ht
  case holdLimitExpiry p => exact .event hrefl (expireOne_acts p) ht
  case checkCompletion => exact .event hrefl completeCheck_acts ht
  case timeout => exact .event hrefl timeoutTest_acts ht
  case recoveryPulseEnd level =>
    have hlevel (v : State) : Acts v (setMemrdy level v) := .same {}
    exact .event hrefl (fun v => .ite (fun _ => (hlevel v).trans (endPulse_acts _)) (fun _ => .refl)) ht
  case memrdyAsserted => exact .event {} memrdyRises_acts ht
  case readyWaitExpiry => exact .event hrefl expireReadyWait_acts ht
  case resetStep => exact .event hrefl takeResetStep_acts ht
  case syncEdge e => exact .event {} (seenEdge_acts e) ht
  case requestArrival p r =>
    simp only [exec, execRequestArrival] at ht
    refine .onEvent hrefl (fun v hv hq => ?_) ht
    split
    · rename_i h
      obtain ⟨hready, hr⟩ := Bool.and_eq_true_iff.mp h
      exact .arrival hv hq hready hr
    · exact .still hv hq
  case grant ready => exact .onEvent hrefl (fun _ hv hq => .grant hv hq) ht
  case memoryResponse m => exact .event hrefl (takeResponse_acts m) ht
  case chipSelectFall =>
    simp only [exec, execChipSelectFall] at ht
    split at ht
    · cases ht; exact hquiet
    · exact .onEvent (f := beginTransaction) {} (fun v hv hq => .still (hv.trans {}) hq) ht
  case chipSelectRise edges =>
    simp only [exec, execChipSelectRise] at ht
    split at ht
    · exact .onEvent {} (fun v hv hq => .still (hv.trans (riseSelect_still edges v)) ((riseSelect_out edges v).trans hq)) ht
    · cases ht; exact hquiet
  case badCrc frame crc =>
    simp only [exec, execBadCrc] at ht
    split at ht
    · exact .frameStep (f := answerBadCrc _) (fun v hv hq => .still (hv.trans {}) hq) ht
    · cases ht; exact hquiet
  case unknown code =>
    simp only [exec, execUnknown] at ht
    split at ht
    · exact .frameStep (f := answerUnknown _) (fun v hv hq => .still (hv.trans {}) hq) ht
    · cases ht; exact hquiet
  case linkByte b => exact .onEvent hrefl (fun _ => .takeByte) ht
  case resetRelease =>
    simp only [exec, execResetRelease] at ht
    cases ht
    split <;> exact .still {} rfl

/-- What a command makes of the part. -/
theorem exec_taken (c : Instr) {s t : State} (ht : exec c s = .next t) : Taken s (some c) t := by
  cases hc : commandRule c with
  | some rule => exact .commandStep hc (exec_of_commandRule hc s ▸ ht)
  | none => exact exec_event_taken hc ht

theorem clockCycle_taken {s t : State} (ht : clockCycle s = .next t) : Taken s none t :=
  .event (.refl s) (fun v => .ite (fun _ => takeDue_acts v) (fun _ => countCycle_acts v)) ht

/-- What one step makes of the part, with or without a command waiting. -/
theorem step_taken {s t : State} (ht : step s = .next t) : ∃ c u, Still s u ∧ Taken u c t := by
  unfold step at ht
  split at ht
  · exact ⟨none, s, .refl s, clockCycle_taken ht⟩
  · rename_i c rest _
    exact ⟨some c, _, {}, exec_taken c ht⟩

/-- A law that Still states share, that every act keeps, and that the five other events keep, every step keeps. -/
theorem step_keeps {P : State → Prop} (hstill : ∀ {s t : State}, Still s t → P s → P t)
    (hact : ∀ {s t : State}, Act s t → P s → P t)
    (hreset : ∀ s, P s → P (resetWith State.reset.plans s) ∧ P (resetWith (plansAfterReset s.plans) s))
    (hlink : ∀ p s, P s → P (resetPort p s))
    (harrival : ∀ p r s, portReady s p = true → r.wellFormed = true → P s → P (acceptRequest p r s))
    (hgrant : ∀ memReady s, P s → P (decideGrant memReady s)) {s t : State} (ht : step s = .next t) (hs : P s) : P t := by
  obtain ⟨c, u, hu, htaken⟩ := step_taken ht
  have hs := hstill hu hs
  cases htaken with
  | acts before _ h after _ => exact hstill after (h.keeps hact (hstill before hs))
  | powerOn => exact (hreset u hs).1
  | pinReset => exact (hreset u hs).2
  | linkReset before _ => exact hlink _ _ (hstill before hs)
  | arrival before _ hready hr => exact harrival _ _ _ hready hr (hstill before hs)
  | grant before _ => exact hgrant _ _ (hstill before hs)

end Sys2Proof.Machine
end

section
/-! SUPPORT. The outcomes of the three events that carry traffic: what an arrival at a ready port leads to (R54 to R58), what
a grant issues (R91 to R96, R111 to R116, R124 to R126), and how the oldest entry completes (R131 to R134). -/

namespace Sys2Proof.Machine

-- One proof at a time, as in the sections before.
set_option Elab.async false

/-! ### Arrivals -/

/-- The checker passes the request in the gate states in which it looks at requests (R57, R76). -/
def Checked (s : State) (p : Port) (r : Request) : Prop :=
  walking s = true → ∃ i posting, verdict (governing s) p r.kind r.addr r.beats = .pass i posting

/-- What the acceptance sequence makes of a request (R54 to R58). -/
inductive Accepted (s : State) (p : Port) (r : Request) : State → Prop
  | faulted (hg : s.sched.gate = .faulted) : Accepted s p r (give p ⟨r.tag, .memFault, false, none⟩ s)
  | rejected (status : Status) (reason : FaultReason) (hg : s.sched.gate ≠ .faulted)
      (h : status ≠ .protocol → protocolFault s p r = none) : Accepted s p r (rejectArrival p r status reason s)
  | posted {posting : Bool} (hg : s.sched.gate ≠ .faulted) (hbus : protocolFault s p r = none) (hw : walking s = true)
      (hkind : r.kind = .write) (hpost : mayPost s p r posting = true) : Accepted s p r (postWrite p r s)
  | held (hg : s.sched.gate ≠ .faulted) (hbus : protocolFault s p r = none) (hcheck : Checked s p r) :
      Accepted s p r (joinQueue p r s)

theorem acceptRequest_accepted (p : Port) (r : Request) (s : State) : Accepted s p r (acceptRequest p r s) := by
  by_cases hg : s.sched.gate = .faulted
  · exact acceptRequest_faulted hg ▸ .faulted hg
  cases hbus : protocolFault s p r with
  | some reason => exact acceptRequest_broken hg hbus ▸ .rejected _ _ hg (absurd rfl)
  | none =>
    rw [acceptRequest_unbroken hg hbus]
    cases hw : walking s with
    | false => exact acceptUnbroken_of_not_walking hw ▸ .held hg hbus fun h => by simp [hw] at h
    | true =>
      cases hv : verdict (governing s) p r.kind r.addr r.beats with
      | denied reason => exact acceptUnbroken_denied hw hv ▸ .rejected _ _ hg fun _ => hbus
      | tooLong reason => exact acceptUnbroken_tooLong hw hv ▸ .rejected _ _ hg fun _ => hbus
      | pass i posting =>
        rw [acceptUnbroken_pass hw hv]
        by_cases hpost : r.kind = .write ∧ mayPost s p r posting = true
        · exact placeChecked_posted hpost ▸ .posted hg hbus hw hpost.1 hpost.2
        · exact placeChecked_held hpost ▸ .held hg hbus fun _ => ⟨i, posting, hv⟩

/-! ### Grants -/

/-- The part with an access of a port's queue issued (R96, R126). -/
def withHeadIssued (p : Port) (h : Held) (rest : List Held) (t : IssueTag) (s : State) : State :=
  { s with
    ports := s.ports.set p { s.ports.get p with queue := rest }
    lastWinner := .port p
    mem := { s.mem with issueList := s.mem.issueList ++ [⟨t, .port p h.tag, h.kind, h.addr, h.beats, 0, false⟩] }
    out := { s.out with issues := s.out.issues ++ [⟨t, h.kind, h.addr, h.beats, h.data⟩] } }

/-- The part with an access of the posted-write buffer issued (R115, R126). -/
def withWriteIssued (older : List PostedEntry) (e : PostedEntry) (younger : List PostedEntry) (t : IssueTag) (s : State) : State :=
  { s with
    posted := older ++ { e with state := .inFlight t } :: younger
    lastWinner := .retire
    mem := { s.mem with issueList := s.mem.issueList ++ [⟨t, .posted, .write, e.addr, e.beats, 0, false⟩] }
    out := { s.out with issues := s.out.issues ++ [⟨t, .write, e.addr, e.beats, e.data⟩] } }

/-- The memory port takes an issue under this tag: it is READY with room, and no entry holds the tag (R124, R126). -/
structure TakesIssue (s : State) (t : IssueTag) : Prop where
  ready : s.mem.state = .ready
  room : s.mem.issueList.length < 16
  free : ∀ e ∈ s.mem.issueList, e.issueTag ≠ t

/-- What a grant decision makes of the part (R124 to R126). -/
inductive Granted (s : State) : State → Prop
  | none : Granted s s
  | head {p : Port} {h : Held} {rest : List Held} {t : IssueTag} (hmem : TakesIssue s t)
      (hqueue : (s.ports.get p).queue = h :: rest) (he : headEligible s p = true) : Granted s (withHeadIssued p h rest t s)
  | write {older younger : List PostedEntry} {e : PostedEntry} {t : IssueTag} (hmem : TakesIssue s t)
      (hposted : s.posted = older ++ e :: younger) (hwaiting : e.state = .waiting) (he : retireEligible s e = true) :
      Granted s (withWriteIssued older e younger t s)

theorem takesIssue_of_canIssue {s : State} {memReady : Bool} {t : IssueTag} (hcan : canIssue s memReady = true)
    (ht : freeTag s.mem.issueList = some t) : TakesIssue s t := by
  simp only [canIssue, Bool.and_eq_true, decide_eq_true_eq] at hcan
  obtain ⟨⟨hready, hroom⟩, -⟩ := hcan
  have hfree := List.find?_some ht
  simp only [List.all_eq_true, bne_iff_ne] at hfree
  exact ⟨hready, (issueRoom_iff s).mp hroom, hfree⟩

theorem retireEligible_of_candidate {s : State} {e : PostedEntry} {i : Nat} (h : retireCandidate s = some (e, i)) :
    retireEligible s e = true := by
  unfold retireCandidate at h
  split at h
  · have hmeets := List.find?_some h
    simp only [Bool.and_eq_true] at hmeets
    exact hmeets.2
  · cases h

theorem grantRetire_granted {s : State} {t : IssueTag} (hmem : TakesIssue s t) : Granted s (grantRetire t s) := by
  unfold grantRetire
  split
  · exact .none
  · rename_i e i hcandidate
    obtain ⟨hplace, hwaiting, -⟩ := retireCandidate_place hcandidate
    obtain ⟨hi, hget⟩ := List.getElem?_eq_some_iff.mp hplace
    have hposted : s.posted = s.posted.take i ++ e :: s.posted.drop (i + 1) := by
      rw [← hget, List.getElem_cons_drop, List.take_append_drop]
    have hset : s.posted.set i { e with state := .inFlight t } =
        s.posted.take i ++ { e with state := .inFlight t } :: s.posted.drop (i + 1) :=
      List.set_eq_take_append_cons_drop.trans (if_pos hi)
    rw [hset]
    exact .write hmem hposted hwaiting (retireEligible_of_candidate hcandidate)

theorem decideGrant_granted (memReady : Bool) (s : State) : Granted s (decideGrant memReady s) := by
  unfold decideGrant
  split
  · rename_i hcan
    split
    · rename_i c t hwinner ht
      have hmem := takesIssue_of_canIssue hcan ht
      cases c with
      | retire => exact grantRetire_granted hmem
      | port p =>
        have he : headEligible s p = true := eligible_of_winner hwinner
        cases hqueue : (s.ports.get p).queue with
        | nil => simp [headEligible, hqueue] at he
        | cons h rest =>
          rw [grantTo, grantPort_of_queue hqueue]
          exact .head hmem hqueue he
    · exact .none
  · exact .none

/-! ### Hold limits -/

/-- The first request of the port whose deadline reached 0 leaves its queue, answered LATE, with its fault (R84). -/
theorem expireOne_eq {s : State} {p : Port} {h : Held} (hfind : (s.ports.get p).queue.find? expired = some h) :
    expireOne p s = { s with
      ports := s.ports.set p { s.ports.get p with
        queue := (s.ports.get p).queue.eraseP expired, tags := tagsWithout (s.ports.get p).tags [h.tag] }
      events := faultsTaken (faultsOf p [faultNow s .late h.tag h.kind h.addr h.beats]) s.events
      out := { s.out with responses := s.out.responses.set p (s.out.responses.get p ++ [refusalTo .late h.tag]) } } := by
  simp only [expireOne, hfind, handFault_eq_faultsTaken, tagsWithout_singleton]
  simp [answer, mapPort, give, PerPort.set_set, refusalTo]

/-! ### Completions -/

/-- What the completion of an entry makes of the part (R132 to R134). -/
inductive Completed (s : State) (e : IssueEntry) (m : MemResponse) : State → Prop
  | orphan {p : Port} {t : Tag} (hsource : e.source = .port p t) (h : e.orphan = true) : Completed s e m s
  | okay {p : Port} {t : Tag} (hsource : e.source = .port p t) (h : e.orphan = false) (hok : completesOk e m = true) :
      Completed s e m (answer p t .okay (completionData e m) s)
  | fault {p : Port} {t : Tag} (hsource : e.source = .port p t) (h : e.orphan = false) (hok : completesOk e m = false) :
      Completed s e m (handFault p (faultNow s .memError t e.kind e.addr e.beats) (answer p t .memFault none s))
  | unmatched (hsource : e.source = .posted) (h : s.posted.find? (inFlightAs e.issueTag) = none) : Completed s e m s
  | freed {o : PostedEntry} (hsource : e.source = .posted) (h : s.posted.find? (inFlightAs e.issueTag) = some o)
      (hok : completesOk e m = true) : Completed s e m { s with posted := s.posted.eraseP (inFlightAs e.issueTag) }
  | lost {o : PostedEntry} (hsource : e.source = .posted) (h : s.posted.find? (inFlightAs e.issueTag) = some o)
      (hok : completesOk e m = false) :
      Completed s e m (loseEntry .postedFailed { s with posted := s.posted.eraseP (inFlightAs e.issueTag) } o)

theorem completeEntry_completed (e : IssueEntry) (m : MemResponse) (s : State) : Completed s e m (completeEntry e m s) := by
  unfold completeEntry
  split
  · rename_i p t hsource
    unfold completePort
    split_ifs with horphan hok
    · exact .orphan hsource horphan
    · exact .okay hsource (Bool.not_eq_true _ ▸ horphan) hok
    · exact .fault hsource (Bool.not_eq_true _ ▸ horphan) (Bool.not_eq_true _ ▸ hok)
  · rename_i hsource
    unfold completePosted
    split
    · rename_i h; exact .unmatched hsource h
    · rename_i o h
      dsimp only
      split_ifs with hok
      · exact .freed hsource h hok
      · exact .lost hsource h (Bool.not_eq_true _ ▸ hok)

end Sys2Proof.Machine
end

section
/-! SUPPORT. R139 and what goes with it, over every step: the gate is FAULTED exactly while the memory port is not READY, and
the queues, the issue list, the buffer and RESET GATE are as the gate state allows. -/

namespace Sys2Proof.Machine

-- One proof at a time, as in the sections before.
set_option Elab.async false

/-! ### The gate law by its parts -/

/-- The parts of the gate law, named. -/
structure GateParts (s : State) : Prop where
  faulted_iff : s.sched.gate = .faulted ↔ s.mem.state ≠ .ready
  resetting_iff : s.mem.state = .resetting ↔ s.mem.recovery ≠ .idle
  inProgress_iff : s.mem.state = .resetting ↔ s.mem.report.outcome = .inProgress
  memrst_iff : s.mem.memrst = true ↔ ∃ n, s.mem.recovery = .pulse n
  empty : s.sched.gate = .faulted → s.mem.issueList = [] ∧ ∀ e ∈ s.posted, e.state = .waiting
  stopped_of_resetting : s.link.resetting = true → s.sched.gate = .stopped
  drained_of_due : s.link.resetDue = true → s.link.resetting = true ∧ s.mem.issueList = [] ∧ s.posted = []
  queue_faulted : s.sched.gate = .faulted → ∀ p, (s.ports.get p).queue = []
  queue_stopped : s.sched.gate = .stopped ∨ s.sched.gate = .armed →
    ∀ p, p ≠ .p0 ∨ s.device.bootPass = false → (s.ports.get p).queue = []
  queue_resetting : s.link.resetting = true → (s.ports.get .p0).queue = []

theorem gateLaw_iff {s : State} : GateLaw s ↔ GateParts s := by
  constructor
  · rintro ⟨h1, h2, h3, h4, h5, h6, h7, h8, h9, h10⟩
    refine ⟨h1, h2, h3, h4, h5, h6, h7, h8, fun hg p hp => ?_, h10⟩
    obtain ⟨hq1, hq2, hq3, hq0⟩ := h9 hg
    cases p with
    | p0 => exact hq0 (hp.resolve_left (absurd rfl))
    | p1 => exact hq1
    | p2 => exact hq2
    | p3 => exact hq3
  · rintro ⟨h1, h2, h3, h4, h5, h6, h7, h8, h9, h10⟩
    have hq (hg : s.sched.gate = .stopped ∨ s.sched.gate = .armed) (p : Port) (hp : p ≠ .p0) := h9 hg p (.inl hp)
    exact ⟨h1, h2, h3, h4, h5, h6, h7, h8,
      fun hg => ⟨hq hg .p1 (by decide), hq hg .p2 (by decide), hq hg .p3 (by decide), fun hb => h9 hg .p0 (.inr hb)⟩, h10⟩

namespace GateParts
variable {s : State} (h : GateParts s)
include h

theorem ready_of_gate (hg : s.sched.gate ≠ .faulted) : s.mem.state = .ready := not_not.mp (mt h.faulted_iff.mpr hg)

theorem gate_of_ready (hr : s.mem.state = .ready) : s.sched.gate ≠ .faulted := fun hg => h.faulted_iff.mp hg hr

theorem idle_of_ready (hr : s.mem.state = .ready) : s.mem.recovery = .idle := by
  by_contra hi
  exact absurd (hr.symm.trans (h.resetting_iff.mpr hi)) (by decide)

/-- A recovery is in progress in FAULTED alone (R139, R144). -/
theorem faulted_of_recovery (hr : s.mem.recovery ≠ .idle) : s.sched.gate = .faulted :=
  h.faulted_iff.mpr (by rw [h.resetting_iff.mpr hr]; decide)

theorem not_resetting_of_gate (hg : s.sched.gate ≠ .stopped) : s.link.resetting = false :=
  Bool.eq_false_iff.mpr (mt h.stopped_of_resetting hg)

theorem not_due_of_resetting (hr : s.link.resetting = false) : s.link.resetDue = false :=
  Bool.eq_false_iff.mpr fun hd => Bool.false_ne_true (hr.symm.trans (h.drained_of_due hd).1)

end GateParts

/-! ### Acts that leave the gate -/

/-- All that the gate law reads is left, but that queues, issue list and buffer may get emptier. -/
structure GateFrame (s t : State) : Prop where
  gate : t.sched.gate = s.sched.gate := by rfl
  state : t.mem.state = s.mem.state := by rfl
  recovery : t.mem.recovery = s.mem.recovery := by rfl
  outcome : t.mem.report.outcome = s.mem.report.outcome := by rfl
  memrst : t.mem.memrst = s.mem.memrst := by rfl
  issueList : s.mem.issueList = [] → t.mem.issueList = [] := by exact id
  posted : s.posted = [] → t.posted = [] := by exact id
  waiting : (∀ e ∈ s.posted, e.state = .waiting) → ∀ e ∈ t.posted, e.state = .waiting := by exact id
  queue : ∀ p, (s.ports.get p).queue = [] → (t.ports.get p).queue = [] := by exact fun _ => id
  bootPass : t.device.bootPass = s.device.bootPass := by rfl
  resetting : t.link.resetting = s.link.resetting := by rfl
  resetDue : t.link.resetDue = s.link.resetDue := by rfl

theorem GateParts.of_frame {s t : State} (h : GateParts s) (hf : GateFrame s t) : GateParts t where
  faulted_iff := by rw [hf.gate, hf.state]; exact h.faulted_iff
  resetting_iff := by rw [hf.state, hf.recovery]; exact h.resetting_iff
  inProgress_iff := by rw [hf.state, hf.outcome]; exact h.inProgress_iff
  memrst_iff := by rw [hf.memrst, hf.recovery]; exact h.memrst_iff
  empty hg := (h.empty (hf.gate ▸ hg)).imp hf.issueList hf.waiting
  stopped_of_resetting hr := hf.gate ▸ h.stopped_of_resetting (hf.resetting ▸ hr)
  drained_of_due hd := by
    obtain ⟨hr, hlist, hposted⟩ := h.drained_of_due (hf.resetDue ▸ hd)
    exact ⟨hf.resetting.trans hr, hf.issueList hlist, hf.posted hposted⟩
  queue_faulted hg p := hf.queue p (h.queue_faulted (hf.gate ▸ hg) p)
  queue_stopped hg p hp := hf.queue p (h.queue_stopped (hf.gate ▸ hg) p (hf.bootPass ▸ hp))
  queue_resetting hr := hf.queue .p0 (h.queue_resetting (hf.resetting ▸ hr))

theorem Idle.gateFrame {s t : State} (h : Idle s t) : GateFrame s t where
  gate := congrArg Schedule.gate h.sched
  state := h.memState
  recovery := by rw [← h.mem]
  outcome := congrArg (·.report.outcome) h.mem
  memrst := by rw [← h.mem]
  issueList hl := h.issueList.trans hl
  posted hp := h.posted.trans hp
  waiting hp := h.posted ▸ hp
  queue p hp := (h.queue p).trans hp
  bootPass := congrArg Device.bootPass h.device
  resetting := h.resetting
  resetDue := h.resetDue

theorem Same.gateFrame {s t : State} (h : Same s t) : GateFrame s t where
  gate := congrArg Schedule.gate h.sched
  state := by rw [← h.mem]
  recovery := by rw [← h.mem]
  outcome := congrArg (·.report.outcome) h.mem
  memrst := by rw [← h.mem]
  issueList hl := (congrArg MemoryPort.issueList h.mem).trans hl
  posted hp := h.posted.trans hp
  waiting hp := h.posted ▸ hp
  queue p hp := h.ports ▸ hp
  bootPass := congrArg Device.bootPass h.device
  resetting := h.resetting
  resetDue := h.resetDue

/-- A port unit replaced by one with no longer a queue. -/
theorem queue_nil_of_set {x : PerPort PortUnit} {p : Port} {u : PortUnit} (hu : (x.get p).queue = [] → u.queue = []) (q : Port)
    (h : (x.get q).queue = []) : ((x.set p u).get q).queue = [] := by
  rw [PerPort.get_set]
  split_ifs with hq
  · exact hu (hq ▸ h)
  · exact h

theorem clearQueue_gateFrame (st : Status) (p : Port) (s : State) : GateFrame s (clearQueue st p s) := by
  rw [clearQueue_eq]
  exact { queue := queue_nil_of_set fun _ => rfl }

theorem expireOne_gateFrame (p : Port) (s : State) : GateFrame s (expireOne p s) := by
  cases hfind : (s.ports.get p).queue.find? expired with
  | none =>
    have hsame : expireOne p s = s := by simp [expireOne, hfind]
    rw [hsame]
    exact {}
  | some h =>
    rw [expireOne_eq hfind]
    exact { queue := queue_nil_of_set fun h => by simp [h] }

theorem enteredFrom_gateFrame (s : State) : GateFrame s (enteredFrom s) where
  queue p h := by simp [enteredFrom, h]

theorem swappedTo_gateFrame (n : PlanName) (s : State) : GateFrame s (swappedTo n s) where
  posted h := by simp [swappedTo, h]
  waiting h e he := by
    simp only [swappedTo, List.mem_map] at he
    obtain ⟨o, ho, rfl⟩ := he
    split_ifs <;> exact h o ho

theorem GateFrame.trans {s t u : State} (h : GateFrame s t) (h' : GateFrame t u) : GateFrame s u where
  gate := h'.gate.trans h.gate
  state := h'.state.trans h.state
  recovery := h'.recovery.trans h.recovery
  outcome := h'.outcome.trans h.outcome
  memrst := h'.memrst.trans h.memrst
  issueList := h'.issueList ∘ h.issueList
  posted := h'.posted ∘ h.posted
  waiting := h'.waiting ∘ h.waiting
  queue p := h'.queue p ∘ h.queue p
  bootPass := h'.bootPass.trans h.bootPass
  resetting := h'.resetting.trans h.resetting
  resetDue := h'.resetDue.trans h.resetDue

/-! ### Acts that move the gate or the memory port -/

theorem stoppedFrom_queue (s : State) (p : Port) :
    ((stoppedFrom s).ports.get p).queue = if p = .p0 ∧ s.device.bootPass = true then (s.ports.get p).queue else [] := by
  simp only [stoppedFrom, perPort_get]
  split_ifs with h
  · rw [h.1]; rfl
  · rfl

/-- An entry to STOPPED with the memory port READY, no recovery in progress and no RESET GATE (R41, R42). -/
theorem stoppedFrom_gateParts {s : State} (hready : s.mem.state = .ready) (hidle : s.mem.recovery = .idle)
    (houtcome : s.mem.report.outcome ≠ .inProgress) (hrst : s.mem.memrst = false) (hreset : s.link.resetting = false)
    (hdue : s.link.resetDue = false) : GateParts (stoppedFrom s) where
  faulted_iff := iff_of_false (by simp [stoppedFrom]) (not_not.mpr hready)
  resetting_iff := iff_of_false (by simp [stoppedFrom, hready]) (not_not.mpr hidle)
  inProgress_iff := iff_of_false (by simp [stoppedFrom, hready]) houtcome
  memrst_iff := iff_of_false (by simp [stoppedFrom, hrst]) (by simp [stoppedFrom, hidle])
  empty hg := by simp [stoppedFrom] at hg
  stopped_of_resetting _ := rfl
  drained_of_due hd := absurd (hdue.symm.trans hd) (by decide)
  queue_faulted hg := by simp [stoppedFrom] at hg
  queue_stopped _ p hp := by
    have hp : ¬(p = .p0 ∧ s.device.bootPass = true) := by
      rintro ⟨rfl, hb⟩
      exact hp.elim (absurd rfl) fun hb' => Bool.false_ne_true (hb'.symm.trans hb)
    rw [stoppedFrom_queue, if_neg hp]
  queue_resetting hr := absurd (hreset.symm.trans hr) (by decide)

namespace GateParts
variable {s : State}

theorem stop (h : GateParts s) (hs : MayStop s) : GateParts (stoppedFrom s) := by
  obtain ⟨hgate, -⟩ := hs
  have hready := h.ready_of_gate fun hg => by simp [walking, hg] at hgate
  have hreset := h.not_resetting_of_gate fun hg => by simp [walking, hg] at hgate
  refine stoppedFrom_gateParts hready (h.idle_of_ready hready) (mt h.inProgress_iff.mpr (by simp [hready])) ?_ hreset
    (h.not_due_of_resetting hreset)
  rw [Bool.eq_false_iff, ne_eq, h.memrst_iff, h.idle_of_ready hready]
  simp

theorem recovered (h : GateParts s) {n : Nat} (hn : s.mem.recovery = .wait n) :
    GateParts (stoppedFrom (endRecovery .ready .succeeded s)) := by
  have hgate := h.faulted_of_recovery (by simp [hn])
  have hreset := h.not_resetting_of_gate (by simp [hgate])
  refine stoppedFrom_gateParts rfl rfl (by simp [endRecovery]) ?_ hreset (h.not_due_of_resetting hreset)
  have hrst : s.mem.memrst = false := by
    rw [Bool.eq_false_iff, ne_eq, h.memrst_iff, hn]
    simp
  exact hrst

/-- A gate that is not FAULTED changes to a state that is not either, with the queues that the new state allows. -/
theorem regate {t : State} (h : GateParts s) (hf : GateFrame { s with sched := { s.sched with gate := t.sched.gate } } t)
    (hs : s.sched.gate ≠ .faulted) (ht : t.sched.gate ≠ .faulted) (hr : s.link.resetting = false)
    (hq : t.sched.gate = .stopped ∨ t.sched.gate = .armed → s.sched.gate = .stopped ∨ s.sched.gate = .armed) : GateParts t := by
  refine of_frame ?_ hf
  exact { h with
    faulted_iff := iff_of_false ht (not_not.mpr (h.ready_of_gate hs))
    empty := fun hg => absurd hg ht
    stopped_of_resetting := fun hr' => absurd (hr.symm.trans hr') (by decide)
    queue_faulted := fun hg => absurd hg ht
    queue_stopped := fun hg => h.queue_stopped (hq hg) }

theorem run (h : GateParts s) (hs : MayRun s) : GateParts (runningFrom s) := by
  have hgate : s.sched.gate ≠ .faulted ∧ s.link.resetting = false := by
    rcases hs with hg | ⟨hg, hr, -⟩
    · exact ⟨by simp [hg], h.not_resetting_of_gate (by simp [hg])⟩
    · exact ⟨by simp [hg], hr⟩
  refine h.regate ((GateFrame.mk).trans (enteredFrom_gateFrame _)) hgate.1 (by simp [runningFrom, enteredFrom]) hgate.2
    (by simp [runningFrom, enteredFrom])

theorem fail (h : GateParts s) (why : FailureKind) (hready : s.mem.state = .ready) : GateParts (failedFrom why s) := by
  have hidle := h.idle_of_ready hready
  have hrst : s.mem.memrst = false := by
    rw [Bool.eq_false_iff, ne_eq, h.memrst_iff, hidle]
    simp
  have hdue (hr : s.link.resetting = false) := h.not_due_of_resetting hr
  refine
    { faulted_iff := iff_of_true rfl (by simp [failedFrom])
      resetting_iff := iff_of_false (by simp [failedFrom]) (by simp [failedFrom, hidle])
      inProgress_iff := iff_of_false (by simp [failedFrom]) (by simp [failedFrom])
      memrst_iff := iff_of_false (by simp [failedFrom, hrst]) (by simp [failedFrom, hidle])
      empty := fun _ => ⟨rfl, fun e he => by simpa [failedFrom] using (List.mem_filter.mp he).2⟩
      stopped_of_resetting := fun hr => ?_
      drained_of_due := fun hd => ?_
      queue_faulted := fun _ p => by simp [failedFrom]
      queue_stopped := fun hg => by simp [failedFrom] at hg
      queue_resetting := fun _ => by simp [failedFrom] }
  · cases hr' : s.link.resetting <;> simp [failedFrom, hr'] at hr
  · cases hr' : s.link.resetting <;> simp [failedFrom, hr', hdue] at hd

theorem endPulse (h : GateParts s) (hp : s.mem.recovery = .pulse 0) :
    GateParts { s with mem := { s.mem with memrst := false, recovery := .wait (readyWaitLimit s) } } :=
  { h with
    resetting_iff := iff_of_true (h.resetting_iff.mpr (by simp [hp])) (by simp)
    memrst_iff := iff_of_false (by simp) (by simp) }

theorem endWait (h : GateParts s) {n : Nat} (hn : s.mem.recovery = .wait n) :
    GateParts (endRecovery .failed .failed s) := by
  have hgate := h.faulted_of_recovery (by simp [hn])
  have hrst : ¬ s.mem.memrst = true := by
    rw [h.memrst_iff, hn]
    simp
  exact { h with
    faulted_iff := iff_of_true hgate (by simp [endRecovery])
    resetting_iff := iff_of_false (by simp [endRecovery]) (by simp [endRecovery])
    inProgress_iff := iff_of_false (by simp [endRecovery]) (by simp [endRecovery])
    memrst_iff := iff_of_false hrst (by simp [endRecovery]) }

theorem recover (h : GateParts s) (hg : s.sched.gate = .faulted) : GateParts { s with mem := { s.mem with
    state := .resetting
    memrst := true
    recovery := .pulse s.device.pulse
    report := { s.mem.report with outcome := .inProgress } } } :=
  { h with
    faulted_iff := iff_of_true hg (by simp)
    resetting_iff := iff_of_true rfl (by simp)
    inProgress_iff := iff_of_true rfl rfl
    memrst_iff := iff_of_true rfl ⟨_, rfl⟩ }

theorem resetStep (h : GateParts s) (hdue : s.link.resetDue = true) : GateParts (resetStep s) := by
  obtain ⟨hreset, hlist, hposted⟩ := h.drained_of_due hdue
  have hgate := h.stopped_of_resetting hreset
  have hready := h.ready_of_gate (by simp [hgate])
  have hidle := h.idle_of_ready hready
  have hrst : ¬ s.mem.memrst = true := by
    rw [h.memrst_iff, hidle]
    simp
  exact
    { faulted_iff := iff_of_false (by simp [Machine.resetStep, Schedule.initial]) (not_not.mpr hready)
      resetting_iff := iff_of_false (by simp [Machine.resetStep, hready]) (not_not.mpr hidle)
      inProgress_iff := iff_of_false (by simp [Machine.resetStep, hready]) (by simp [Machine.resetStep, RecoveryReport.empty])
      memrst_iff := iff_of_false hrst (by simp [Machine.resetStep, hidle])
      empty := fun hg => by simp [Machine.resetStep, Schedule.initial] at hg
      stopped_of_resetting := fun hr => by simp [Machine.resetStep] at hr
      drained_of_due := fun hd => by simp [Machine.resetStep] at hd
      queue_faulted := fun hg => by simp [Machine.resetStep, Schedule.initial] at hg
      queue_stopped := fun _ p hp => by
        have hports : (Machine.resetStep s).ports = s.ports := setDevice_ports _ s
        rw [hports]
        exact h.queue_stopped (.inl hgate) p (hp.imp_right fun hb => by
          simp [Machine.resetStep, setDevice, Device.initial, Config.resetBootPass] at hb)
      queue_resetting := fun hr => by simp [Machine.resetStep] at hr }

end GateParts

/-! ### Every act -/

theorem tickDeadlines_queue (s : State) (p : Port) :
    ((tickDeadlines s).ports.get p).queue = (s.ports.get p).queue.map tickDeadline := by cases p <;> rfl

theorem tickMemory_gateParts {s : State} (h : GateParts s) : GateParts (tickMemory s) := by
  have hidle : (tickMemory s).mem.recovery = .idle ↔ s.mem.recovery = .idle := by
    cases hr : s.mem.recovery <;> simp [tickMemory, tickAges, tickRecovery, hr]
  have hpulse : (∃ n, (tickMemory s).mem.recovery = .pulse n) ↔ ∃ n, s.mem.recovery = .pulse n := by
    cases hr : s.mem.recovery <;> simp [tickMemory, tickAges, tickRecovery, hr]
  exact { h with
    resetting_iff := h.resetting_iff.trans (not_congr hidle.symm)
    memrst_iff := h.memrst_iff.trans hpulse.symm
    empty := fun hg => (h.empty hg).imp_left fun hl => by simp [tickMemory, tickAges, hl]
    drained_of_due := fun hd => (h.drained_of_due hd).imp_right fun hl => ⟨by simp [tickMemory, tickAges, hl.1], hl.2⟩ }

theorem tickReset_gateParts {s : State} (h : GateParts s) : GateParts (tickReset s) := by
  unfold tickReset
  split
  · rename_i hd
    simp only [drained, Bool.and_eq_true, List.isEmpty_iff] at hd
    exact { h with drained_of_due := fun _ => hd }
  · exact h

theorem beginReset_gateParts {s : State} (h : GateParts s) (hg : s.sched.gate = .stopped) : GateParts (beginReset s) := by
  unfold beginReset
  rw [clearQueue_eq]
  exact { h with
    stopped_of_resetting := fun _ => hg
    drained_of_due := fun hd => absurd hd Bool.false_ne_true
    queue_faulted := fun hf => by simp [hg] at hf
    queue_stopped := fun hs p hp => queue_nil_of_set (fun _ => rfl) p (h.queue_stopped hs p hp)
    queue_resetting := fun _ => rfl }

theorem setDevice_eq (d : Device) (s : State) : setDevice d s =
    { s with ticked := if d.divider = s.device.divider then s.ticked else 0, device := d } := by
  unfold setDevice restartTick
  split <;> rfl

/-- New settings; without boot pass P0 holds nothing in STOPPED and ARMED (R98). -/
theorem setDevice_gateParts {s : State} (h : GateParts s) {d : Device}
    (hq : d.bootPass = false → s.device.bootPass = true → (s.ports.get .p0).queue = []) : GateParts (setDevice d s) := by
  rw [setDevice_eq]
  refine { h with queue_stopped := fun hg p hp => ?_ }
  by_cases hb : s.device.bootPass = true
  · obtain hp | hd := hp
    · exact h.queue_stopped hg p (.inl hp)
    · by_cases hp : p = .p0
      · exact hp ▸ hq hd hb
      · exact h.queue_stopped hg p (.inl hp)
  · exact h.queue_stopped hg p (.inr (Bool.not_eq_true _ ▸ hb))

theorem setDevice_cleared (d : Device) (s : State) :
    clearQueue .closed .p0 (setDevice d s) = setDevice d (clearQueue .closed .p0 s) := by
  simp only [setDevice_eq, clearQueue_eq]

theorem respond_gateParts {s : State} {e : IssueEntry} {rest : List IssueEntry} (h : GateParts s) (m : MemResponse)
    (hready : s.mem.state = .ready) (hlist : s.mem.issueList = e :: rest) :
    GateParts (completeEntry e m (withIssues rest s)) := by
  have hgate := h.gate_of_ready hready
  have hdue : s.link.resetDue = false := Bool.eq_false_iff.mpr fun hd => by
    obtain ⟨-, hnil, -⟩ := h.drained_of_due hd
    simp [hlist] at hnil
  have hleft : GateParts (withIssues rest s) :=
    { h with
      empty := fun hg => absurd hg hgate
      drained_of_due := fun hd => absurd (hdue.symm.trans hd) Bool.false_ne_true }
  refine hleft.of_frame ?_
  have hanswered {p : Port} {u : PortUnit} (hu : u.queue = (s.ports.get p).queue) (q : Port) (hq : (s.ports.get q).queue = []) :
      ((s.ports.set p u).get q).queue = [] := queue_nil_of_set (fun hn => hu.trans hn) q hq
  have hfreed (f : PostedEntry → Bool) : GateFrame (withIssues rest s) { withIssues rest s with posted := s.posted.eraseP f } :=
    { posted := fun hp => by simp [show s.posted = [] from hp]
      waiting := fun hw o ho => hw o (List.mem_of_mem_eraseP ho) }
  have hc := completeEntry_completed e m (withIssues rest s)
  generalize completeEntry e m (withIssues rest s) = t at hc ⊢
  cases hc with
  | orphan => exact {}
  | okay => exact { queue := hanswered rfl }
  | fault => exact { queue := hanswered rfl }
  | unmatched => exact {}
  | freed => exact hfreed _
  | lost => exact (hfreed _).trans {}

theorem Act.gateParts {s t : State} (ha : Act s t) (h : GateParts s) : GateParts t := by
  cases ha with
  | same hs => exact h.of_frame hs.gateFrame
  | tickDeadlines => exact h.of_frame { queue := fun p hp => by simp [tickDeadlines_queue, hp] }
  | tickMemory => exact tickMemory_gateParts h
  | tickCheck => exact h.of_frame {}
  | tickReset => exact tickReset_gateParts h
  | oweWalk => exact h.of_frame {}
  | endPulses => exact h.of_frame {}
  | advance => exact h.of_frame {}
  | nextWindow => exact h.of_frame {}
  | nextFrame => exact h.of_frame {}
  | swap =>
    exact h.of_frame (.trans (.trans (t := { s with sched := { s.sched with pendingSwap := none } }) {}
      (swappedTo_gateFrame _ _)) (enteredFrom_gateFrame _))
  | beginFrame => exact h.of_frame {}
  | rewind => exact h.of_frame {}
  | stop hs => exact h.stop hs
  | run hs => exact h.run hs
  | late p hfind => exact h.of_frame (expireOne_gateFrame p s)
  | complete => exact h.of_frame {}
  | fail why hready => exact h.fail why hready
  | respond m hready hlist => exact respond_gateParts h m hready hlist
  | endPulse hp => exact h.endPulse hp
  | recovered hn => exact h.recovered hn
  | endWait hn => exact h.endWait hn
  | resetStep hd => exact h.resetStep hd
  | capture => exact h.of_frame {}
  | captureTaken => exact h.of_frame {}
  | emptyFault => exact h.of_frame {}
  | setSync => exact h.of_frame {}
  | setDevice =>
    split
    · rw [setDevice_cleared]
      exact setDevice_gateParts (h.of_frame (clearQueue_gateFrame _ _ s)) fun _ _ => by simp [clearQueue_eq, emptied]
    · rename_i hb
      exact setDevice_gateParts h fun hd hs => absurd (by simp [hd, hs]) hb
  | write => exact h.of_frame {}
  | beginCheck => exact h.of_frame {}
  | activate => exact h.of_frame (swappedTo_gateFrame _ s)
  | pend => exact h.of_frame {}
  | withdraw => exact h.of_frame {}
  | arm hg hopen => exact h.regate (t := { s with sched := { s.sched with gate := .armed, startOnSync := true } }) {} (by simp [hg]) (by simp) hopen fun _ => .inl hg
  | halt hg => exact h.regate (t := { s with sched := { s.sched with gate := .halting, pendingHalt := true } }) {} (by simp [hg]) (by simp) (h.not_resetting_of_gate (by simp [hg])) (by simp)
  | recover hg => exact h.recover hg
  | beginReset hg => exact beginReset_gateParts h hg

/-! ### Resets, arrivals and grants -/

theorem resetWith_gateParts (plans : PerPlan Plan) (s : State) : GateParts (resetWith plans s) where
  faulted_iff := iff_of_false (by simp [resetWith, State.reset, Schedule.initial]) (by simp [resetWith, State.reset])
  resetting_iff := iff_of_false (by simp [resetWith, State.reset]) (by simp [resetWith, State.reset])
  inProgress_iff := iff_of_false (by simp [resetWith, State.reset]) (by simp [resetWith, State.reset, RecoveryReport.empty])
  memrst_iff := iff_of_false (by simp [resetWith, State.reset]) (by simp [resetWith, State.reset])
  empty hg := by simp [resetWith, State.reset, Schedule.initial] at hg
  stopped_of_resetting hr := by simp [resetWith, State.reset] at hr
  drained_of_due hd := by simp [resetWith, State.reset] at hd
  queue_faulted _ p := by cases p <;> rfl
  queue_stopped _ p _ := by cases p <;> rfl
  queue_resetting _ := rfl

theorem resetPort_gateParts (p : Port) {s : State} (h : GateParts s) : GateParts (resetPort p s) :=
  h.of_frame
    { issueList := fun hl => by simp [resetPort, orphanIssues, raise, hl]
      queue := queue_nil_of_set fun _ => rfl }

theorem acceptRequest_gateParts (p : Port) (r : Request) {s : State} (hready : portReady s p = true) (h : GateParts s) :
    GateParts (acceptRequest p r s) := by
  have hreset : s.link.resetting = false ∧ admitted s p = true := by
    simp only [portReady, Bool.and_eq_true, Bool.not_eq_true'] at hready
    exact ⟨hready.2, hready.1.2⟩
  have hdue := h.not_due_of_resetting hreset.1
  have hc := acceptRequest_accepted p r s
  generalize acceptRequest p r s = t at hc ⊢
  cases hc with
  | faulted => exact h.of_frame {}
  | rejected => exact h.of_frame {}
  | posted hg =>
    exact { h with
      empty := fun hf => absurd hf hg
      drained_of_due := fun hd => absurd (hdue.symm.trans hd) Bool.false_ne_true }
  | held hg =>
    exact { h with
      queue_faulted := fun hf => absurd hf hg
      queue_stopped := fun hs q hq => by
        have hother : q ≠ p := by
          rintro rfl
          rcases (admitted_iff s q).mp hreset.2 with hr | hr | hr | ⟨hr, hb⟩
          · simp [hr] at hs
          · simp [hr] at hs
          · exact hg hr
          · exact hq.elim (absurd hr) fun hb' => Bool.false_ne_true (hb'.symm.trans hb)
        rw [joinQueue, mapPort, PerPort.get_set_other _ _ hother]
        exact h.queue_stopped hs q hq
      queue_resetting := fun hr => absurd (hreset.1.symm.trans hr) Bool.false_ne_true }

/-- With the reset step due nothing is left that could be granted (R190). -/
theorem not_due_of_head {s : State} {p : Port} {h : Held} {rest : List Held} (hs : GateParts s)
    (hqueue : (s.ports.get p).queue = h :: rest) : s.link.resetDue = false := Bool.eq_false_iff.mpr fun hd => by
  obtain ⟨hreset, -, -⟩ := hs.drained_of_due hd
  by_cases hp : p = .p0
  · have := hs.queue_resetting hreset
    simp [← hp, hqueue] at this
  · have := hs.queue_stopped (.inl (hs.stopped_of_resetting hreset)) p (.inl hp)
    simp [hqueue] at this

theorem decideGrant_gateParts (memReady : Bool) {s : State} (h : GateParts s) : GateParts (decideGrant memReady s) := by
  have hc := decideGrant_granted memReady s
  generalize decideGrant memReady s = t at hc ⊢
  cases hc with
  | none => exact h
  | head hmem hqueue =>
    exact { h with
      empty := fun hg => absurd hg (h.gate_of_ready hmem.ready)
      drained_of_due := fun hd => absurd ((not_due_of_head h hqueue).symm.trans hd) Bool.false_ne_true
      queue_faulted := fun hg => absurd hg (h.gate_of_ready hmem.ready)
      queue_stopped := fun hs q hq => queue_nil_of_set (fun hn => by simp [hqueue] at hn) q (h.queue_stopped hs q hq)
      queue_resetting := fun hr => queue_nil_of_set (fun hn => by simp [hqueue] at hn) .p0 (h.queue_resetting hr) }
  | write hmem hposted =>
    exact { h with
      empty := fun hg => absurd hg (h.gate_of_ready hmem.ready)
      drained_of_due := fun hd => by
        obtain ⟨-, -, hnil⟩ := h.drained_of_due hd
        simp [hposted] at hnil }

/-- Settles O15: every act and every other event keeps the parts of the gate law. -/
theorem stepKeepsTheGateLaw : Obligations.StepKeepsTheGateLaw := by
  intro s t h ht
  rw [gateLaw_iff] at h ⊢
  exact step_keeps (fun hs h => h.of_frame hs.gateFrame) Act.gateParts
    (fun s _ => ⟨resetWith_gateParts _ s, resetWith_gateParts _ s⟩) (fun p _ => resetPort_gateParts p)
    (fun p r _ hready _ => acceptRequest_gateParts p r hready) (fun memReady _ => decideGrant_gateParts memReady) ht h

end Sys2Proof.Machine
end

section
/-! SUPPORT. The sizes of the hold queues, the buffer and the issue list, the distinct issue tags, and the match of the
IN_FLIGHT entries with the POSTED entries of the issue list, over every step (R80, R104, R115 to R118, R128, R136). -/

namespace Sys2Proof.Machine

-- One proof at a time, as in the sections before.
set_option Elab.async false

/-! ### The buffer law by its parts -/

/-- The parts of the buffer law, named. -/
structure BufferParts (s : State) : Prop where
  queues : ∀ p, (s.ports.get p).queue.length ≤ 8
  postedSize : s.posted.length ≤ 16
  listSize : s.mem.issueList.length ≤ 16
  tags : (s.mem.issueList.map (·.issueTag)).Nodup
  writes : ∀ e ∈ s.mem.issueList, e.source = .posted → e.kind = .write ∧ e.orphan = false
  inFlight : (s.posted.filterMap inFlightKey).Perm (s.mem.issueList.filterMap postedKey)

theorem bufferLaw_iff {s : State} : BufferLaw s ↔ BufferParts s :=
  ⟨fun ⟨h1, h2, h3, h4, h5, h6⟩ => ⟨h1, h2, h3, h4, h5, h6⟩, fun ⟨h1, h2, h3, h4, h5, h6⟩ => ⟨h1, h2, h3, h4, h5, h6⟩⟩

/-- An entry that is not IN_FLIGHT has no key. -/
theorem inFlightKey_eq_none {e : PostedEntry} (h : e.state = .waiting) : inFlightKey e = none := by simp [inFlightKey, h]

theorem inFlightKey_of_inFlight {e : PostedEntry} {t : IssueTag} (h : e.state = .inFlight t) :
    inFlightKey e = some (t, e.addr, e.beats) := by simp [inFlightKey, h]

theorem postedKey_of_posted {e : IssueEntry} (h : e.source = .posted) : postedKey e = some (e.issueTag, e.addr, e.beats) := by
  simp [postedKey, h]

theorem postedKey_of_port {e : IssueEntry} {p : Port} {t : Tag} (h : e.source = .port p t) : postedKey e = none := by
  simp [postedKey, h]

theorem posted_of_postedKey {e : IssueEntry} {k : IssueTag × Addr × Nat} (h : postedKey e = some k) :
    e.source = .posted ∧ k = (e.issueTag, e.addr, e.beats) := by
  cases hs : e.source with
  | port p t => simp [postedKey_of_port hs] at h
  | posted => exact ⟨rfl, by simpa [postedKey_of_posted hs] using h.symm⟩

/-! ### Acts that leave the accesses -/

/-- The queues get no longer, and the buffer and the issue list keep what the law reads of their entries. -/
structure BufferFrame (s t : State) : Prop where
  queues : ∀ p, (t.ports.get p).queue.length ≤ (s.ports.get p).queue.length := by exact fun _ => le_rfl
  postedSize : t.posted.length = s.posted.length := by rfl
  inFlight : t.posted.filterMap inFlightKey = s.posted.filterMap inFlightKey := by rfl
  tags : t.mem.issueList.map (·.issueTag) = s.mem.issueList.map (·.issueTag) := by rfl
  keys : t.mem.issueList.filterMap postedKey = s.mem.issueList.filterMap postedKey := by rfl
  writes : (∀ e ∈ s.mem.issueList, e.source = .posted → e.kind = .write ∧ e.orphan = false) →
    ∀ e ∈ t.mem.issueList, e.source = .posted → e.kind = .write ∧ e.orphan = false := by exact id

theorem BufferParts.of_frame {s t : State} (h : BufferParts s) (hf : BufferFrame s t) : BufferParts t where
  queues p := (hf.queues p).trans (h.queues p)
  postedSize := hf.postedSize.trans_le h.postedSize
  listSize := by
    have hlength := congrArg List.length hf.tags
    simp only [List.length_map] at hlength
    exact hlength.trans_le h.listSize
  tags := hf.tags ▸ h.tags
  writes := hf.writes h.writes
  inFlight := by rw [hf.inFlight, hf.keys]; exact h.inFlight

theorem BufferFrame.trans {s t u : State} (h : BufferFrame s t) (h' : BufferFrame t u) : BufferFrame s u where
  queues p := (h'.queues p).trans (h.queues p)
  postedSize := h'.postedSize.trans h.postedSize
  inFlight := h'.inFlight.trans h.inFlight
  tags := h'.tags.trans h.tags
  keys := h'.keys.trans h.keys
  writes := h'.writes ∘ h.writes

/-- The buffer and the issue list are left, and no queue gets longer. -/
theorem BufferFrame.of_lists {s t : State} (hposted : t.posted = s.posted) (hlist : t.mem.issueList = s.mem.issueList)
    (hqueues : ∀ p, (t.ports.get p).queue.length ≤ (s.ports.get p).queue.length) : BufferFrame s t where
  queues := hqueues
  postedSize := by rw [hposted]
  inFlight := by rw [hposted]
  tags := by rw [hlist]
  keys := by rw [hlist]
  writes := by rw [hlist]; exact id

theorem Idle.bufferFrame {s t : State} (h : Idle s t) : BufferFrame s t :=
  .of_lists h.posted h.issueList fun p => (congrArg List.length (h.queue p)).le

theorem Same.bufferFrame {s t : State} (h : Same s t) : BufferFrame s t :=
  .of_lists h.posted (by rw [← h.mem]) fun _ => by rw [h.ports]

theorem length_le_of_set {x : PerPort PortUnit} {p : Port} {u : PortUnit} (hu : u.queue.length ≤ (x.get p).queue.length)
    (q : Port) : ((x.set p u).get q).queue.length ≤ (x.get q).queue.length := by
  rw [PerPort.get_set]
  split_ifs with hq
  · exact hq ▸ hu
  · exact le_rfl

theorem clearQueue_bufferFrame (st : Status) (p : Port) (s : State) : BufferFrame s (clearQueue st p s) := by
  rw [clearQueue_eq]
  exact { queues := length_le_of_set (Nat.zero_le _) }

theorem stoppedFrom_bufferFrame (s : State) : BufferFrame s (stoppedFrom s) where
  queues p := by
    rw [stoppedFrom_queue]
    split_ifs
    · exact le_rfl
    · exact Nat.zero_le _

theorem enteredFrom_bufferFrame (s : State) : BufferFrame s (enteredFrom s) where
  queues p := by
    simp only [enteredFrom, perPort_get, List.length_map]
    exact List.length_filter_le _ _

theorem swappedTo_bufferFrame (n : PlanName) (s : State) : BufferFrame s (swappedTo n s) where
  postedSize := List.length_map _
  inFlight := by
    simp only [swappedTo, List.filterMap_map]
    congr 1
    funext e
    simp only [Function.comp]
    split_ifs <;> rfl

theorem expireOne_bufferFrame {s : State} {p : Port} {h : Held} (hfind : (s.ports.get p).queue.find? expired = some h) :
    BufferFrame s (expireOne p s) := by
  rw [expireOne_eq hfind]
  exact { queues := length_le_of_set List.length_eraseP_le }

theorem tickMemory_bufferFrame (s : State) : BufferFrame s (tickMemory s) where
  tags := by simp [tickMemory, tickAges, Function.comp_def]
  keys := by
    simp only [tickMemory, tickAges, List.filterMap_map]
    rfl
  writes h e he := by
    obtain ⟨x, hx, rfl⟩ := List.mem_map.mp he
    exact h x hx

theorem resetPort_bufferFrame (p : Port) (s : State) : BufferFrame s (resetPort p s) where
  queues := length_le_of_set (Nat.zero_le _)
  tags := by
    simp only [resetPort, raise_mem, orphanIssues, mapPort_mem, List.map_map]
    refine List.map_congr_left fun e _ => ?_
    simp only [Function.comp]
    split_ifs <;> rfl
  keys := by
    simp only [resetPort, raise_mem, orphanIssues, mapPort_mem, List.filterMap_map]
    refine List.filterMap_congr fun e _ => ?_
    simp only [Function.comp]
    split_ifs <;> rfl
  writes h e he := by
    simp only [resetPort, raise_mem, orphanIssues, mapPort_mem, List.mem_map] at he
    obtain ⟨x, hx, rfl⟩ := he
    split_ifs with hp
    · obtain ⟨t, ht⟩ := (fromPort_iff p x).mp hp
      intro hs
      exact absurd (ht.symm.trans hs) (by simp)
    · exact h x hx

/-! ### Failures and completions -/

/-- With nothing issued and no entry IN_FLIGHT the lists match (R118, R143). -/
theorem bufferParts_of_empty {s t : State} (h : BufferParts s) (hqueues : ∀ p, (t.ports.get p).queue = [])
    (hposted : t.posted.Sublist s.posted) (hwaiting : ∀ e ∈ t.posted, e.state = .waiting) (hlist : t.mem.issueList = []) :
    BufferParts t where
  queues p := by simp [hqueues p]
  postedSize := hposted.length_le.trans h.postedSize
  listSize := by simp [hlist]
  tags := by simp [hlist]
  writes := by simp [hlist]
  inFlight := by
    have hnone : t.posted.filterMap inFlightKey = [] :=
      List.filterMap_eq_nil_iff.mpr fun e he => inFlightKey_eq_none (hwaiting e he)
    rw [hnone, hlist]
    exact .refl _

theorem failedFrom_bufferParts (why : FailureKind) {s : State} (h : BufferParts s) : BufferParts (failedFrom why s) :=
  bufferParts_of_empty h (fun p => by simp [failedFrom]) List.filter_sublist
    (fun e he => by simpa [failedFrom] using (List.mem_filter.mp he).2) rfl

namespace BufferParts
variable {s : State} {e : IssueEntry} {rest : List IssueEntry}

/-- The oldest entry leaves the issue list, and with it the IN_FLIGHT entry of its key, if any (R115 to R117). -/
theorem without_oldest {t : State} (h : BufferParts s) (hlist : s.mem.issueList = e :: rest)
    (hqueues : ∀ p, (t.ports.get p).queue = (s.ports.get p).queue) (hmem : t.mem.issueList = rest)
    (hposted : t.posted.length ≤ s.posted.length)
    (hmatch : (t.posted.filterMap inFlightKey).Perm (rest.filterMap postedKey)) : BufferParts t := by
  obtain ⟨hq, hp, hl, htags, hwrites, -⟩ := h
  rw [hlist] at hl htags hwrites
  exact
    { queues := fun p => hqueues p ▸ hq p
      postedSize := hposted.trans hp
      listSize := hmem ▸ (Nat.le_of_succ_le hl)
      tags := hmem ▸ (List.nodup_cons.mp htags).2
      writes := hmem ▸ fun x hx => hwrites x (List.mem_cons_of_mem _ hx)
      inFlight := hmem ▸ hmatch }

/-- An entry IN_FLIGHT under the tag of a POSTED entry has its key, as the issue tags are distinct (R136). -/
theorem key_of_tag (h : BufferParts s) (he : e ∈ s.mem.issueList) {o : PostedEntry} (ho : o ∈ s.posted)
    (hstate : o.state = .inFlight e.issueTag) : inFlightKey o = postedKey e := by
  have hmem : (e.issueTag, o.addr, o.beats) ∈ s.mem.issueList.filterMap postedKey :=
    h.inFlight.mem_iff.mp (List.mem_filterMap.mpr ⟨o, ho, inFlightKey_of_inFlight hstate⟩)
  obtain ⟨x, hx, hkey⟩ := List.mem_filterMap.mp hmem
  obtain ⟨-, htag⟩ := posted_of_postedKey hkey
  obtain rfl : x = e := List.inj_on_of_nodup_map h.tags hx he (congrArg Prod.fst htag).symm
  rw [inFlightKey_of_inFlight hstate, hkey]

theorem inFlightAs_iff {t : IssueTag} {o : PostedEntry} : inFlightAs t o = true ↔ o.state = .inFlight t := beq_iff_eq

/-- A POSTED entry of the issue list has an entry IN_FLIGHT under its tag (R115). -/
theorem find_inFlight (h : BufferParts s) (he : e ∈ s.mem.issueList) (hsource : e.source = .posted) :
    s.posted.find? (inFlightAs e.issueTag) ≠ none := by
  have hmem : (e.issueTag, e.addr, e.beats) ∈ s.posted.filterMap inFlightKey :=
    h.inFlight.mem_iff.mpr (List.mem_filterMap.mpr ⟨e, he, postedKey_of_posted hsource⟩)
  obtain ⟨o, ho, hkey⟩ := List.mem_filterMap.mp hmem
  have hstate : o.state = .inFlight e.issueTag := by
    cases hs : o.state with
    | waiting => simp [inFlightKey, hs] at hkey
    | inFlight t =>
      simp only [inFlightKey, hs, Option.some.injEq, Prod.mk.injEq] at hkey
      exact congrArg _ hkey.1
  intro hnone
  exact absurd (inFlightAs_iff.mpr hstate) (List.find?_eq_none.mp hnone o ho)

theorem eraseP_match (h : BufferParts s) (hlist : s.mem.issueList = e :: rest) (hsource : e.source = .posted) {o : PostedEntry}
    (hfind : s.posted.find? (inFlightAs e.issueTag) = some o) :
    ((s.posted.eraseP (inFlightAs e.issueTag)).filterMap inFlightKey).Perm (rest.filterMap postedKey) := by
  have hkey := h.key_of_tag (e := e) (by simp [hlist]) (List.mem_of_find?_eq_some hfind)
    (inFlightAs_iff.mp (List.find?_some hfind))
  have hperm := ((perm_cons_eraseP hfind).filterMap inFlightKey).symm.trans h.inFlight
  rw [hlist, List.filterMap_cons, List.filterMap_cons, hkey, postedKey_of_posted hsource] at hperm
  exact hperm.cons_inv

theorem respond (h : BufferParts s) (m : MemResponse) (hlist : s.mem.issueList = e :: rest) :
    BufferParts (completeEntry e m (withIssues rest s)) := by
  have hport {p : Port} {t : Tag} (hsource : e.source = .port p t) :
      (s.posted.filterMap inFlightKey).Perm (rest.filterMap postedKey) := by
    have hmatch := h.inFlight
    rwa [hlist, List.filterMap_cons, postedKey_of_port hsource] at hmatch
  have hanswered {p : Port} {u : PortUnit} (hu : u.queue = (s.ports.get p).queue) (q : Port) :
      ((s.ports.set p u).get q).queue = (s.ports.get q).queue := by
    rw [PerPort.get_set]
    split_ifs with hq
    · exact hq ▸ hu
    · rfl
  have hc := completeEntry_completed e m (withIssues rest s)
  generalize completeEntry e m (withIssues rest s) = t at hc ⊢
  cases hc with
  | orphan hsource => exact h.without_oldest hlist (fun _ => rfl) rfl le_rfl (hport hsource)
  | okay hsource => exact h.without_oldest hlist (hanswered rfl) rfl le_rfl (hport hsource)
  | fault hsource => exact h.without_oldest hlist (hanswered rfl) rfl le_rfl (hport hsource)
  | unmatched hsource hnone => exact absurd hnone (h.find_inFlight (by simp [hlist]) hsource)
  | freed hsource hfind =>
    exact h.without_oldest hlist (fun _ => rfl) rfl List.length_eraseP_le (h.eraseP_match hlist hsource hfind)
  | lost hsource hfind =>
    exact h.without_oldest hlist (fun _ => rfl) rfl List.length_eraseP_le (h.eraseP_match hlist hsource hfind)

end BufferParts

/-! ### Every act -/

theorem setDevice_bufferFrame (d : Device) (s : State) : BufferFrame s (setDevice d s) := by
  rw [setDevice_eq]
  exact {}

theorem tickReset_bufferFrame (s : State) : BufferFrame s (tickReset s) := by
  unfold tickReset
  split <;> exact {}

theorem resetStep_bufferFrame (s : State) : BufferFrame s (resetStep s) := by
  unfold resetStep
  rw [setDevice_eq]
  exact {}

theorem Act.bufferParts {s t : State} (ha : Act s t) (h : BufferParts s) : BufferParts t := by
  cases ha with
  | same hs => exact h.of_frame hs.bufferFrame
  | tickDeadlines => exact h.of_frame { queues := fun p => by simp [tickDeadlines_queue] }
  | tickMemory => exact h.of_frame (tickMemory_bufferFrame s)
  | tickCheck => exact h.of_frame {}
  | tickReset => exact h.of_frame (tickReset_bufferFrame s)
  | oweWalk => exact h.of_frame {}
  | endPulses => exact h.of_frame {}
  | advance => exact h.of_frame {}
  | nextWindow => exact h.of_frame {}
  | nextFrame => exact h.of_frame {}
  | swap =>
    exact h.of_frame (.trans (.trans (t := { s with sched := { s.sched with pendingSwap := none } }) {}
      (swappedTo_bufferFrame _ _)) (enteredFrom_bufferFrame _))
  | beginFrame => exact h.of_frame {}
  | rewind => exact h.of_frame {}
  | stop => exact h.of_frame (stoppedFrom_bufferFrame s)
  | run => exact h.of_frame (.trans {} (enteredFrom_bufferFrame _))
  | late p hfind => exact h.of_frame (expireOne_bufferFrame hfind)
  | complete => exact h.of_frame {}
  | fail why => exact failedFrom_bufferParts why h
  | respond m _ hlist => exact h.respond m hlist
  | endPulse => exact h.of_frame {}
  | recovered => exact h.of_frame (.trans (t := endRecovery .ready .succeeded s) {} (stoppedFrom_bufferFrame _))
  | endWait => exact h.of_frame {}
  | resetStep => exact h.of_frame (resetStep_bufferFrame s)
  | capture => exact h.of_frame {}
  | captureTaken => exact h.of_frame {}
  | emptyFault => exact h.of_frame {}
  | setSync => exact h.of_frame {}
  | setDevice =>
    split
    · exact h.of_frame ((setDevice_bufferFrame _ s).trans (clearQueue_bufferFrame _ _ _))
    · exact h.of_frame (setDevice_bufferFrame _ s)
  | write => exact h.of_frame {}
  | beginCheck => exact h.of_frame {}
  | activate => exact h.of_frame (swappedTo_bufferFrame _ s)
  | pend => exact h.of_frame {}
  | withdraw => exact h.of_frame {}
  | arm => exact h.of_frame {}
  | halt => exact h.of_frame {}
  | recover => exact h.of_frame {}
  | beginReset => exact h.of_frame (.trans {} (clearQueue_bufferFrame _ _ _))

/-! ### Resets, arrivals and grants -/

theorem resetWith_bufferParts (plans : PerPlan Plan) (s : State) : BufferParts (resetWith plans s) where
  queues p := by cases p <;> exact Nat.zero_le _
  postedSize := Nat.zero_le _
  listSize := Nat.zero_le _
  tags := .nil
  writes := by simp [resetWith, State.reset]
  inFlight := .refl _

theorem acceptRequest_bufferParts (p : Port) (r : Request) {s : State} (hready : portReady s p = true) (h : BufferParts s) :
    BufferParts (acceptRequest p r s) := by
  have hc := acceptRequest_accepted p r s
  generalize acceptRequest p r s = t at hc ⊢
  cases hc with
  | faulted => exact h.of_frame {}
  | rejected => exact h.of_frame {}
  | posted _ _ _ _ hpost =>
    obtain ⟨-, -, -, -, hroom, -⟩ := (mayPost_iff _).mp hpost
    exact { h with
      postedSize := by simpa [postWrite] using hroom
      inFlight := by simpa [postWrite, List.filterMap_cons, inFlightKey] using h.inFlight }
  | held =>
    refine { h with queues := fun q => ?_ }
    simp only [joinQueue, mapPort, PerPort.get_set]
    split_ifs
    · simpa using room_of_portReady hready
    · exact h.queues q

theorem decideGrant_bufferParts (memReady : Bool) {s : State} (h : BufferParts s) : BufferParts (decideGrant memReady s) := by
  have hc := decideGrant_granted memReady s
  generalize decideGrant memReady s = t at hc ⊢
  have hnodup {tag : IssueTag} {x : IssueEntry} (hmem : TakesIssue s tag) (hx : x.issueTag = tag) :
      ((s.mem.issueList ++ [x]).map (·.issueTag)).Nodup := by
    rw [List.map_append, List.map_singleton, hx]
    exact List.nodup_append.mpr ⟨h.tags, List.nodup_singleton _, by simpa using hmem.free⟩
  cases hc with
  | none => exact h
  | head hmem hqueue =>
    exact
      { queues := fun q => (length_le_of_set (by simp [hqueue]) q).trans (h.queues q)
        postedSize := h.postedSize
        listSize := by simpa [withHeadIssued] using hmem.room
        tags := hnodup hmem rfl
        writes := fun e he hs => by
          obtain he | he := List.mem_append.mp he
          · exact h.writes e he hs
          · rw [List.mem_singleton.mp he] at hs
            cases hs
        inFlight := by simpa [withHeadIssued, List.filterMap_cons, postedKey] using h.inFlight }
  | write hmem hposted hwaiting =>
    have hmatch := h.inFlight
    rw [hposted, List.filterMap_append, List.filterMap_cons, inFlightKey_eq_none hwaiting] at hmatch
    exact
      { queues := h.queues
        postedSize := by simpa [withWriteIssued, hposted] using h.postedSize
        listSize := by simpa [withWriteIssued] using hmem.room
        tags := hnodup hmem rfl
        writes := fun e he hs => by
          obtain he | he := List.mem_append.mp he
          · exact h.writes e he hs
          · rw [List.mem_singleton.mp he]
            exact ⟨rfl, rfl⟩
        inFlight := by
          simp only [withWriteIssued, List.filterMap_append, List.filterMap_cons, List.filterMap_nil, inFlightKey, postedKey]
          exact List.perm_middle.trans ((hmatch.cons _).trans (List.perm_append_singleton _ _).symm) }

/-- Settles O14: every act and every other event keeps the parts of the buffer law. -/
theorem stepKeepsTheBufferLaw : Obligations.StepKeepsTheBufferLaw := by
  intro s t h ht
  rw [bufferLaw_iff] at h ⊢
  exact step_keeps (fun hs h => h.of_frame hs.bufferFrame) Act.bufferParts
    (fun s _ => ⟨resetWith_bufferParts _ s, resetWith_bufferParts _ s⟩) (fun p s h => h.of_frame (resetPort_bufferFrame p s))
    (fun p r _ hready _ => acceptRequest_bufferParts p r hready) (fun memReady _ => decideGrant_bufferParts memReady) ht h

end Sys2Proof.Machine
end

section
/-! SUPPORT. CHECK visit by visit (R18 to R21): what the values built come to, what each visit finds, when the check is found
complete, and what its completion writes. -/

namespace Sys2Proof.Machine

-- One proof at a time, as in the sections before.
set_option Elab.async false

/-! ### The derived values window by window -/

theorem longest_append (l : List Nat) (n : Nat) : longest (l ++ [n]) = max (longest l) n := by
  induction l with
  | nil => simp [longest]
  | cons m l ih =>
    simp only [longest, List.cons_append, List.foldr_cons] at ih ⊢
    rw [ih, max_assoc]

/-- One more window kept or left out by a filter before the longest is taken. -/
theorem longest_filter_append (f : Window → Bool) (l : List Window) (w : Window) :
    longest (((l ++ [w]).filter f).map (·.length)) =
      if f w then max (longest ((l.filter f).map (·.length))) w.length else longest ((l.filter f).map (·.length)) := by
  cases h : f w <;> simp [h, longest_append]

/-- Folding one more window into the derived values of a list (R20). -/
theorem derivedOf_append (l : List Window) (w : Window) : derivedOf (l ++ [w]) = foldWindow w (derivedOf l) := by
  simp only [derivedOf, foldWindow, derivedOf.openLongest, derivedOf.retireLongest, foldWindow.openMax, foldWindow.retireMax,
    longest_filter_append, PerPort.get, List.map_append, List.sum_append, List.map_singleton, List.sum_singleton]

theorem derivedOf_nil : derivedOf [] = Derived.zero := rfl

theorem windowsBelow_succ (p : Plan) (n : Nat) : windowsBelow p (n + 1) = windowsBelow p n ++ [windowAt p n] := by
  simp [windowsBelow, List.range_succ]

/-! ### What CHECK finds -/

section
variable {p : Plan}

theorem unsetWindow_eq_none_iff : unsetWindow p = none ↔ ∀ i < p.windowCount, (windowAt p i).length ≠ 0 := by
  simp [unsetWindow]

theorem unsetWindow_eq_some {i : Nat} (hi : i < p.windowCount) (hunset : (windowAt p i).length = 0)
    (hset : ∀ j < i, (windowAt p j).length ≠ 0) : unsetWindow p = some i := by
  rw [unsetWindow, List.find?_range_eq_some]
  exact ⟨by simpa using hunset, List.mem_range.mpr hi, fun j hj => by simpa using hset j hj⟩

/-- A record beyond the 32 is unwritten, so counted windows that are all written are records (R2). -/
theorem windowCount_le (h : unsetWindow p = none) : p.windowCount ≤ 32 := by
  by_contra hlt
  refine unsetWindow_eq_none_iff.mp h 32 (by omega) ?_
  simp [windowAt, Window.unwritten]

theorem countedWindows_eq (h : unsetWindow p = none) : countedWindows p = windowsBelow p p.windowCount :=
  (windowsBelow_eq_take p (windowCount_le h)).symm

theorem finding_noWindows (h : p.windowCount = 0) : finding p = some .noWindows := if_pos h

theorem finding_windowUnset {i : Nat} (h : unsetWindow p = some i) : finding p = some (.windowUnset i) := by
  have hcount : p.windowCount ≠ 0 := fun h0 => by simp [unsetWindow, h0] at h
  simp [finding, hcount, h]

/-- With the windows passed, CHECK finds what is left to find: quiet windows, then regions, then a stranded port (R19). -/
theorem finding_of_windows (hcount : p.windowCount ≠ 0) (hset : unsetWindow p = none) :
    finding p = if (windowsBelow p p.windowCount).all quietWindow then some .allQuiet
      else ((List.range p.regionCount).findSome? (regionFinding p)).or
        ((strandedPort p (derivedOf (windowsBelow p p.windowCount))).map .stranded) := by
  unfold finding
  rw [if_neg hcount, hset]
  dsimp only
  split_ifs
  · rfl
  · cases (List.range p.regionCount).findSome? (regionFinding p) <;> rfl

theorem foldedWindows_of_set (hset : unsetWindow p = none) : foldedWindows p = windowsBelow p p.windowCount := by
  simp [foldedWindows, hset]

theorem foldedWindows_of_unset {i : Nat} (h : unsetWindow p = some i) : foldedWindows p = windowsBelow p i := by
  simp [foldedWindows, h]

end

/-! ### One visit -/

/-- Region `i` and all regions below it passed, the next visit or the last tests follow (R19 steps 4 to 6). -/
theorem regionPoint_progress {p : Plan} {n : PlanName} {i : Nat} (hcount : p.windowCount ≠ 0) (hset : unsetWindow p = none)
    (hloud : (windowsBelow p p.windowCount).all quietWindow = false) (hpassed : ∀ j < i, regionFinding p j = none) :
    CheckProgress p ⟨n, regionPoint p (derivedOf (windowsBelow p p.windowCount)) i,
      derivedOf (windowsBelow p p.windowCount), false⟩ := by
  unfold regionPoint
  split
  · rename_i hi
    exact ⟨hi, hcount, hset, hloud, hpassed, rfl, rfl⟩
  · rename_i hi
    have hnone : (List.range p.regionCount).findSome? (regionFinding p) = none :=
      List.findSome?_eq_none_iff.mpr fun j hj => hpassed j (by have := List.mem_range.mp hj; omega)
    refine ⟨?_, by rw [foldedWindows_of_set hset]⟩
    rw [finding_of_windows hcount hset, hloud, hnone]
    rfl

theorem visitWindow_progress {p : Plan} {n : PlanName} {i : Nat} (hi : i < p.windowCount)
    (hset : ∀ j < i, (windowAt p j).length ≠ 0) :
    CheckProgress p ⟨n, (visitWindow p (derivedOf (windowsBelow p i)) i).1, (visitWindow p (derivedOf (windowsBelow p i)) i).2,
      false⟩ := by
  unfold visitWindow
  by_cases hw : (windowAt p i).length = 0
  · have hunset := unsetWindow_eq_some hi hw hset
    simp only [hw, if_true]
    exact ⟨(finding_windowUnset hunset).symm, by rw [foldedWindows_of_unset hunset]⟩
  · have hset' : ∀ j < i + 1, (windowAt p j).length ≠ 0 := fun j hj => by
      obtain hj | rfl := Nat.lt_succ_iff_lt_or_eq.mp hj
      · exact hset j hj
      · exact hw
    simp only [hw, if_false, ← derivedOf_append, ← windowsBelow_succ]
    split_ifs with hmore
    · exact ⟨hmore, hset', rfl, rfl⟩
    · obtain hlast : i + 1 = p.windowCount := by omega
      rw [hlast] at hset' ⊢
      have hcount : p.windowCount ≠ 0 := by omega
      have hall := unsetWindow_eq_none_iff.mpr hset'
      unfold afterWindows
      rw [countedWindows_eq hall]
      split_ifs with hquiet
      · refine ⟨?_, by rw [foldedWindows_of_set hall]⟩
        rw [finding_of_windows hcount hall, if_pos hquiet]
      · exact regionPoint_progress hcount hall (Bool.not_eq_true _ ▸ hquiet) (by simp)

theorem visitRegion_progress {p : Plan} {n : PlanName} {i : Nat} (hi : i < p.regionCount) (hcount : p.windowCount ≠ 0)
    (hset : unsetWindow p = none) (hloud : (windowsBelow p p.windowCount).all quietWindow = false)
    (hpassed : ∀ j < i, regionFinding p j = none) :
    CheckProgress p ⟨n, visitRegion p (derivedOf (windowsBelow p p.windowCount)) i,
      derivedOf (windowsBelow p p.windowCount), false⟩ := by
  have hfound {f : CheckFailure} (h : regionFinding p i = some f) :
      CheckProgress p ⟨n, .finish (some f), derivedOf (windowsBelow p p.windowCount), false⟩ := by
    have hfirst : (List.range p.regionCount).findSome? (regionFinding p) = some f := by
      have hi : i < (List.range p.regionCount).length := by rwa [List.length_range]
      refine List.findSome?_eq_some_iff.mpr ⟨(List.range p.regionCount).take i, i, (List.range p.regionCount).drop (i + 1),
        ?_, h, fun j hj => ?_⟩
      · conv_lhs => rw [← List.take_append_drop i (List.range p.regionCount), List.drop_eq_getElem_cons hi, List.getElem_range]
      · rw [List.take_range, List.mem_range] at hj
        exact hpassed j (by omega)
    refine ⟨?_, by rw [foldedWindows_of_set hset]⟩
    rw [finding_of_windows hcount hset, hloud, hfirst]
    rfl
  unfold visitRegion
  dsimp only
  split_ifs with hsize hrange
  · exact hfound (if_pos hsize)
  · exact hfound ((if_neg hsize).trans (if_pos hrange))
  · refine regionPoint_progress hcount hset hloud fun j hj => ?_
    obtain hj | rfl := Nat.lt_succ_iff_lt_or_eq.mp hj
    · exact hpassed j hj
    · exact (if_neg hsize).trans (if_neg hrange)

/-- A check begins as R19 step 1 has it. -/
theorem firstPoint_progress (p : Plan) (n : PlanName) : CheckProgress p ⟨n, firstPoint p, Derived.zero, false⟩ := by
  unfold firstPoint
  split
  · rename_i h
    refine ⟨(finding_noWindows h).symm, ?_⟩
    have hset : unsetWindow p = none := by simp [unsetWindow, h]
    rw [foldedWindows_of_set hset, h]
    rfl
  · rename_i h
    exact ⟨by omega, by simp, rfl, rfl⟩

/-- Every tick takes a check from where R19 and R20 have it to where they have it next. -/
theorem tickCheckRun_progress {p : Plan} {c : CheckRun} (h : CheckProgress p c) : CheckProgress p (tickCheckRun p c) := by
  obtain ⟨n, point, built, due⟩ := c
  cases point with
  | window i =>
    obtain ⟨hi, hset, rfl, rfl⟩ := h
    exact visitWindow_progress hi hset
  | region i =>
    obtain ⟨hi, hcount, hset, hloud, hpassed, rfl, rfl⟩ := h
    exact visitRegion_progress hi hcount hset hloud hpassed
  | finish f => exact h

end Sys2Proof.Machine
end

section
/-! SUPPORT. The law of the plan store over every step (R6, R9, R19 to R25): each act keeps at most one plan ACTIVE, the
pending target READY, the plan under check CHECKING, and every READY or ACTIVE plan one that CHECK passes. -/

namespace Sys2Proof.Machine

-- One proof at a time, as in the sections before.
set_option Elab.async false

/-! ### What a passed check says -/

section
variable {p : Plan}

theorem regionCount_le (h : ∀ i < p.regionCount, regionFinding p i = none) : p.regionCount ≤ 16 := by
  by_contra hlt
  have hbeyond : regionFinding p 16 = some (.regionUnset 16) := by simp [regionFinding, regionAt, Region.unwritten]
  exact absurd ((h 16 (by omega)).symm.trans hbeyond) (by simp)

/-- A plan in which CHECK finds nothing (R19). -/
structure Passes (p : Plan) : Prop where
  count : p.windowCount ≠ 0
  set : unsetWindow p = none
  regions : ∀ i < p.regionCount, regionFinding p i = none
  ported : strandedPort p (derivedOf (windowsBelow p p.windowCount)) = none

theorem passes_of_finding (h : finding p = none) : Passes p := by
  have hcount : p.windowCount ≠ 0 := fun h0 => by simp [finding_noWindows h0] at h
  have hset : unsetWindow p = none := by
    rw [Option.eq_none_iff_forall_ne_some]
    intro i hi
    simp [finding_windowUnset hi] at h
  rw [finding_of_windows hcount hset] at h
  split_ifs at h
  rw [Option.or_eq_none_iff, List.findSome?_eq_none_iff, Option.map_eq_none_iff] at h
  exact ⟨hcount, hset, fun i hi => h.1 i (List.mem_range.mpr hi), h.2⟩

theorem Passes.windowCount_le (h : Passes p) : p.windowCount ≤ 32 := Machine.windowCount_le h.set

theorem Passes.regionCount_le (h : Passes p) : p.regionCount ≤ 16 := Machine.regionCount_le h.regions

theorem countedRegions_eq (h : p.regionCount ≤ 16) : countedRegions p = (List.range p.regionCount).map (regionAt p) := by
  refine List.ext_getElem? fun i => ?_
  by_cases hi : i < p.regionCount
  · rw [countedRegions_getElem? p hi (by omega)]
    simp [hi]
  · rw [List.getElem?_eq_none (by simp [countedRegions]; omega), List.getElem?_eq_none (by simpa using hi)]

/-- The report of a check that passed is the one R21 gives. -/
theorem checkReport_passed (h : finding p = none) :
    checkReport p (derivedOf (windowsBelow p p.windowCount)) none = passedReport p := by
  have hregions := countedRegions_eq (passes_of_finding h).regionCount_le
  simp only [checkReport, passedReport, unreachable, passedReport.warned, hregions, List.any_map, Function.comp_def]

end

/-! ### The plan law by its parts -/

/-- What the plan law asks of one plan by itself (R6, R7, R21). -/
structure PlanFits (p : Plan) : Prop where
  sound : p.state = .ready ∨ p.state = .active → SoundPlan p
  reportNone : p.state = .checking → p.report = .none
  notPassed : ∀ u w, p.state = .edit → p.report ≠ .passed u w

/-- The parts of the plan law, named. -/
structure PlanParts (s : State) : Prop where
  one : ¬(s.plans.a.state = .active ∧ s.plans.b.state = .active)
  target : ∀ n, s.sched.pendingSwap = some n → (s.plans.get n).state = .ready ∧ walking s = true
  checking_iff : ∀ n, (s.plans.get n).state = .checking ↔ s.check.map (·.plan) = some n
  fits : ∀ n, PlanFits (s.plans.get n)
  progress : ∀ c, s.check = some c → CheckProgress (s.plans.get c.plan) c
  active : walking s = true ∨ s.sched.gate = .armed → activePlan s ≠ none

theorem planLaw_iff {s : State} : PlanLaw s ↔ PlanParts s := by
  constructor
  · rintro ⟨h1, h2, h3, h4, h5, h6, h7, h8⟩
    exact ⟨h1, h2, h3, fun n => ⟨h4 n, h5 n, fun u w => h6 n u w⟩, h7, h8⟩
  · rintro ⟨h1, h2, h3, h4, h7, h8⟩
    exact ⟨h1, h2, h3, fun n => (h4 n).sound, fun n => (h4 n).reportNone, fun n u w => (h4 n).notPassed u w, h7, h8⟩

theorem planFits_of_edit {p : Plan} (he : p.state = .edit) (hr : p.report = .none) : PlanFits p :=
  ⟨fun h => by simp [he] at h, fun h => by simp [he] at h, fun u w _ => by simp [hr]⟩

/-- A READY or ACTIVE plan keeps what CHECK found when it moves between these two states. -/
theorem PlanFits.restate {p : Plan} (h : PlanFits p) (hp : p.state = .ready ∨ p.state = .active) {st : PlanState}
    (hst : st = .ready ∨ st = .active) : PlanFits { p with state := st } where
  sound _ := h.sound hp
  reportNone hc := by rcases hst with rfl | rfl <;> cases hc
  notPassed _ _ hc := by rcases hst with rfl | rfl <;> cases hc

namespace PlanParts
variable {s t : State}

theorem no_swap (h : PlanParts s) (hw : walking s = false) : s.sched.pendingSwap = none := by
  rw [Option.eq_none_iff_forall_ne_some]
  intro n hn
  exact Bool.false_ne_true (hw.symm.trans (h.target n hn).2)

theorem check_ne (h : PlanParts s) {n : PlanName} (hn : (s.plans.get n).state ≠ .checking) {c : CheckRun}
    (hc : s.check = some c) : c.plan ≠ n := by
  rintro rfl
  exact hn ((h.checking_iff _).mpr (by rw [hc]; rfl))

/-- The plans and the check are left; what is still pending was pending, and the gate stays one the plans allow. -/
theorem of_frame (h : PlanParts s) (hplans : t.plans = s.plans := by rfl) (hcheck : t.check = s.check := by rfl)
    (hswap : ∀ n, t.sched.pendingSwap = some n → s.sched.pendingSwap = some n ∧ walking t = true)
    (hgate : walking t = true ∨ t.sched.gate = .armed → activePlan s ≠ none) : PlanParts t where
  one := hplans ▸ h.one
  target n hn := by
    obtain ⟨hs, hw⟩ := hswap n hn
    rw [hplans]
    exact ⟨(h.target n hs).1, hw⟩
  checking_iff n := by rw [hplans, hcheck]; exact h.checking_iff n
  fits n := hplans ▸ h.fits n
  progress c hc := by
    rw [hplans]
    exact h.progress c (hcheck ▸ hc)
  active hw := by
    have hactive : activePlan t = activePlan s := by simp [activePlan, hplans]
    exact hactive ▸ hgate hw

/-- The plans, the check, the gate state and the pending swap are left. -/
theorem of_same (h : PlanParts s) (hplans : t.plans = s.plans := by rfl) (hcheck : t.check = s.check := by rfl)
    (hgate : t.sched.gate = s.sched.gate := by rfl) (hswap : t.sched.pendingSwap = s.sched.pendingSwap := by rfl) :
    PlanParts t := by
  have hw : walking t = walking s := by simp only [walking, hgate]
  refine h.of_frame hplans hcheck (fun n hn => ?_) (fun hg => h.active (by rwa [hw, hgate] at hg))
  rw [hswap] at hn
  exact ⟨hn, hw.trans (h.target n hn).2⟩

/-- A pending swap is withdrawn, or there is none, and the gate does not walk and is not armed. -/
theorem of_rest (h : PlanParts s) (hplans : t.plans = s.plans := by rfl) (hcheck : t.check = s.check := by rfl)
    (hswap : t.sched.pendingSwap = none) (hw : walking t = false) (hg : t.sched.gate ≠ .armed) : PlanParts t :=
  h.of_frame hplans hcheck (fun n hn => by simp [hswap] at hn) (fun ha => by simp [hw, hg] at ha)

theorem withdraw (h : PlanParts s) : PlanParts (withdrawPending s) :=
  h.of_frame (hswap := fun n hn => by simp [withdrawPending] at hn) (hgate := h.active)

/-- An EDIT or READY plan that is no pending target takes new contents, in EDIT. -/
theorem write (h : PlanParts s) {n : PlanName} {p : Plan} (hn : TakesContents s n) (hp : p.state = .edit ∧ p.report = .none) :
    PlanParts { s with plans := s.plans.set n p } := by
  obtain ⟨he, hr⟩ := hp
  have hother : (s.plans.get n).state ≠ .active := by
    rcases hn.active with ha | ha
    · exact ha
    · intro hact
      have hoth := activePlan_state ha
      cases n
      · exact h.one ⟨hact, hoth⟩
      · exact h.one ⟨hoth, hact⟩
  have hactive : activePlan { s with plans := s.plans.set n p } = activePlan s :=
    (governing_mapPlan (f := fun _ => p) hother (by simp [he])).1
  refine
    { one := fun hboth => ?_
      target := fun m hm => ?_
      checking_iff := fun m => ?_
      fits := fun m => ?_
      progress := fun c hc => ?_
      active := fun hg => hactive ▸ h.active hg }
  · cases n <;> simp [PerPlan.set, he] at hboth
  · obtain ⟨hready, hw⟩ := h.target m hm
    have hmn : m ≠ n := by rintro rfl; exact hn.swap hready hm
    exact ⟨by simpa [PerPlan.get_set, hmn] using hready, hw⟩
  · have hc := h.checking_iff m
    by_cases hmn : m = n
    · subst hmn
      simpa [PerPlan.get_set, he] using mt hc.mpr hn.checking
    · simpa [PerPlan.get_set, hmn] using hc
  · simp only [PerPlan.get_set]
    split_ifs
    · exact planFits_of_edit he hr
    · exact h.fits m
  · simpa [PerPlan.get_set, h.check_ne hn.checking hc] using h.progress c hc

/-- CHECK PLAN accepted (R18). -/
theorem beginCheck (h : PlanParts s) {n : PlanName} (hactive : (s.plans.get n).state ≠ .active)
    (hswap : s.sched.pendingSwap ≠ some n) (hcheck : s.check = none) :
    PlanParts { s with
      plans := s.plans.set n { s.plans.get n with state := .checking, report := .none }
      check := some ⟨n, firstPoint (s.plans.get n), Derived.zero, false⟩ } := by
  have hplan := (governing_mapPlan (f := fun p => { p with state := .checking, report := .none }) hactive (by simp)).1
  refine
    { one := fun hboth => ?_
      target := fun m hm => ?_
      checking_iff := fun m => ?_
      fits := fun m => ?_
      progress := fun c hc => ?_
      active := fun hg => hplan ▸ h.active hg }
  · cases n <;> simp [PerPlan.set] at hboth
  · obtain ⟨hready, hw⟩ := h.target m hm
    have hmn : m ≠ n := by rintro rfl; exact hswap hm
    exact ⟨by simpa [PerPlan.get_set, hmn] using hready, hw⟩
  · have hc := h.checking_iff m
    simp only [hcheck, Option.map_none, reduceCtorEq, iff_false] at hc
    by_cases hmn : m = n
    · simp [hmn]
    · simp [PerPlan.get_set, hmn, hc, Ne.symm hmn]
  · simp only [PerPlan.get_set]
    split_ifs
    · exact ⟨fun hs => by simp at hs, fun _ => rfl, fun u w hs => by simp at hs⟩
    · exact h.fits m
  · obtain rfl := Option.some.inj hc
    simp only [PerPlan.get_set, if_true]
    exact firstPoint_progress { s.plans.get n with state := .checking, report := .none } n

/-- The completion of a check (R21). -/
theorem complete (h : PlanParts s) {n : PlanName} {f : Option CheckFailure} {d : Derived} {due : Bool}
    (hcheck : s.check = some ⟨n, .finish f, d, due⟩) :
    PlanParts (raise .checkDone (mapPlan n (checkedPlan d f) { s with check := none })) := by
  have hchecking : (s.plans.get n).state = .checking := (h.checking_iff n).mpr (by rw [hcheck]; rfl)
  obtain ⟨hf, hd⟩ : f = finding (s.plans.get n) ∧ d = derivedOf (foldedWindows (s.plans.get n)) := h.progress _ hcheck
  have hplan := (governing_mapPlan (s := { s with check := none }) (f := checkedPlan d f) (n := n) (by simp [hchecking])
    (by simp only [checkedPlan]; split_ifs <;> simp)).1
  have hstate : (checkedPlan d f (s.plans.get n)).state = .ready ∨ (checkedPlan d f (s.plans.get n)).state = .edit := by
    simp only [checkedPlan]
    split_ifs
    · exact .inl rfl
    · exact .inr rfl
  refine
    { one := fun hboth => ?_
      target := fun m hm => ?_
      checking_iff := fun m => ?_
      fits := fun m => ?_
      progress := fun c hc => by cases hc
      active := fun hg => ?_ }
  · rcases hstate with hs | hs <;> cases n <;>
      simp only [raise, mapPlan, PerPlan.set, PerPlan.get] at hboth hs <;> simp [hs] at hboth
  · obtain ⟨hready, hw⟩ := h.target m hm
    have hmn : m ≠ n := by rintro rfl; simp [hchecking] at hready
    exact ⟨by simpa [raise, mapPlan, PerPlan.get_set, hmn] using hready, hw⟩
  · have hc := h.checking_iff m
    by_cases hmn : m = n
    · subst hmn
      rcases hstate with hs | hs <;> simp [raise, mapPlan, hs]
    · simpa [raise, mapPlan, PerPlan.get_set, hmn, hcheck, Ne.symm hmn] using hc
  · simp only [raise, mapPlan, PerPlan.get_set]
    split_ifs with hmn
    · cases f with
      | none =>
        have hset := (passes_of_finding hf.symm).set
        rw [foldedWindows_of_set hset] at hd
        refine ⟨fun _ => ⟨hf.symm, hd, ?_⟩, fun hs => by simp [checkedPlan] at hs, fun u w hs => by simp [checkedPlan] at hs⟩
        rw [hd]
        exact checkReport_passed hf.symm
      | some x =>
        exact ⟨fun hs => by simp [checkedPlan] at hs, fun hs => by simp [checkedPlan] at hs,
          fun u w _ => by simp [checkedPlan, checkReport]⟩
    · exact h.fits m
  · exact hplan.trans_ne (h.active hg)

/-- A READY plan becomes ACTIVE in place of the one that was (R23, R30). -/
theorem activate (h : PlanParts s) {n : PlanName} (hready : (s.plans.get n).state = .ready)
    (hswap : s.sched.pendingSwap = none) : PlanParts (swappedTo n s) := by
  refine
    { one := fun hboth => ?_
      target := fun m hm => ?_
      checking_iff := fun m => ?_
      fits := fun m => ?_
      progress := fun c hc => ?_
      active := fun _ => (activePlan_ne_none_iff _).mpr ⟨n, by rw [swappedTo_get, if_pos rfl]⟩ }
  · have hother := swappedTo_get n n.other s
    have hne : n.other ≠ n := by cases n <;> simp [PlanName.other]
    rw [if_neg hne] at hother
    have hactive : ((swappedTo n s).plans.get n.other).state = .active := by
      cases n
      · exact hboth.2
      · exact hboth.1
    rw [hother] at hactive
    dsimp only at hactive
    split_ifs at hactive with hold
    exact hold hactive
  · have hnone : (swappedTo n s).sched.pendingSwap = none := hswap
    simp [hnone] at hm
  · have hc := h.checking_iff m
    rw [swappedTo_get]
    by_cases hmn : m = n
    · subst hmn
      have hother : s.check.map (·.plan) ≠ some m := mt hc.mpr (by simp [hready])
      exact iff_of_false (by simp) hother
    · simp only [hmn, if_false]
      refine Iff.trans ?_ hc
      split_ifs with hold
      · simp [hold]
      · rfl
  · rw [swappedTo_get]
    split_ifs with hmn hold
    · exact (h.fits n).restate (.inl hready) (.inr rfl)
    · exact (h.fits m).restate (.inr hold) (.inl rfl)
    · exact h.fits m
  · have hplan := h.check_ne (n := n) (by simp [hready]) hc
    have hkeep : CheckProgress (s.plans.get c.plan) c := h.progress c hc
    rw [swappedTo_get, if_neg hplan]
    unfold CheckProgress at hkeep ⊢
    split at hkeep <;> exact hkeep

theorem tickCheck (h : PlanParts s) : PlanParts (tickCheck s) :=
  { h with
    checking_iff := fun n => by
      refine (h.checking_iff n).trans ?_
      simp only [Machine.tickCheck, Option.map_map, Function.comp_def, tickCheckRun_plan]
    progress := fun c hc => by
      obtain ⟨before, hbefore, rfl⟩ := Option.map_eq_some_iff.mp hc
      simp only [tickCheckRun_plan]
      exact tickCheckRun_progress (h.progress before hbefore) }

/-- Both plans back in EDIT and no check. -/
theorem of_reset {u : State} (hplans : u.plans = plansAfterReset s.plans ∨ u.plans = State.reset.plans) (hcheck : u.check = none)
    (hsched : u.sched = Schedule.initial) : PlanParts u := by
  have hedit (n : PlanName) : (u.plans.get n).state = .edit ∧ (u.plans.get n).report = .none := by
    rcases hplans with hp | hp <;> rw [hp] <;> cases n <;> exact ⟨rfl, rfl⟩
  refine
    { one := fun hboth => ?_
      target := fun m hm => by simp [hsched, Schedule.initial] at hm
      checking_iff := fun m => by simp [(hedit m).1, hcheck]
      fits := fun m => planFits_of_edit (hedit m).1 (hedit m).2
      progress := fun c hc => by simp [hcheck] at hc
      active := fun hg => by simp [walking, hsched, Schedule.initial] at hg }
  have ha : u.plans.a.state = .edit := (hedit .a).1
  simp [ha] at hboth

end PlanParts

/-! ### Every act -/

theorem completeEntry_planParts {s : State} {e : IssueEntry} {m : MemResponse} (h : PlanParts s) :
    PlanParts (completeEntry e m s) := by
  have hc := completeEntry_completed e m s
  generalize completeEntry e m s = t at hc ⊢
  cases hc <;> exact h.of_same

theorem Act.planParts {s t : State} (ha : Act s t) (hgate : GateParts s) (h : PlanParts s) : PlanParts t := by
  cases ha with
  | same hs => exact h.of_same hs.plans hs.check (by rw [hs.sched]) (by rw [hs.sched])
  | tickDeadlines => exact h.of_same
  | tickMemory => exact h.of_same
  | tickCheck => exact h.tickCheck
  | tickReset =>
    unfold Machine.tickReset
    split
    · exact h.of_same
    · exact h
  | oweWalk => exact h.of_same
  | endPulses => exact h.of_same
  | advance => exact h.of_same
  | nextWindow => exact h.of_same
  | nextFrame => exact h.of_same
  | swap hw hswap =>
    exact (h.withdraw.activate (h.target _ hswap).1 rfl).of_same
  | beginFrame => exact h.of_same
  | rewind => exact h.of_same
  | stop hs =>
    obtain ⟨-, hnone⟩ := hs
    refine h.of_rest (hswap := ?_) (hw := by simp [walking, stoppedFrom]) (hg := by simp [stoppedFrom])
    by_cases hw : walking s = true
    · exact hnone hw
    · exact h.no_swap (Bool.not_eq_true _ ▸ hw)
  | run hs =>
    have hnone : s.sched.pendingSwap = none := h.no_swap <| by
      rcases hs with hg | ⟨hg, -⟩ <;> simp [walking, hg]
    refine h.of_frame (hswap := fun n hn => ?_) (hgate := fun _ => ?_)
    · have hsame : (runningFrom s).sched.pendingSwap = s.sched.pendingSwap := rfl
      simp [hsame, hnone] at hn
    · rcases hs with hg | ⟨-, -, hplan⟩
      · exact h.active (.inr hg)
      · exact hplan
  | late p hfind => exact expireOne_eq hfind ▸ h.of_same
  | complete hcheck => exact h.complete hcheck
  | fail why => exact h.of_rest (hswap := rfl) (hw := by simp [walking, failedFrom]) (hg := by simp [failedFrom])
  | respond m => exact completeEntry_planParts h.of_same
  | endPulse => exact h.of_same
  | recovered hn =>
    have hg := hgate.faulted_of_recovery (by simp [hn])
    exact h.of_rest (hswap := h.no_swap (by simp [walking, hg])) (hw := by simp [walking, stoppedFrom])
      (hg := by simp [stoppedFrom])
  | endWait => exact h.of_same
  | resetStep => exact .of_reset (s := s) (.inl rfl) rfl rfl
  | capture => exact h.of_same
  | captureTaken => exact h.of_same
  | emptyFault => exact h.of_same
  | setSync => exact h.of_same
  | setDevice =>
    rw [setDevice_eq, clearQueue_eq]
    split <;> exact h.of_same
  | write hn hp => exact h.write hn hp
  | beginCheck hactive hswap hcheck => exact h.beginCheck hactive hswap hcheck
  | activate hg hready => exact h.activate hready (h.no_swap (by simp [walking, hg]))
  | pend hg hready =>
    exact { h with
      target := fun n hn => by
        obtain rfl := Option.some.inj hn
        exact ⟨hready, by simp [walking, hg]⟩ }
  | withdraw => exact h.withdraw
  | arm hg _ hplan =>
    refine h.of_frame (hswap := fun n hn => ?_) (hgate := fun _ => hplan)
    have hnone := h.no_swap (by simp [walking, hg])
    simp [hnone] at hn
  | halt hg =>
    exact h.of_frame (hswap := fun n hn => ⟨hn, by simp [walking]⟩) (hgate := fun _ => h.active (.inl (by simp [walking, hg])))
  | recover => exact h.of_same
  | beginReset =>
    unfold Machine.beginReset
    rw [clearQueue_eq]
    exact h.of_same

theorem acceptRequest_planParts (p : Port) (r : Request) {s : State} (h : PlanParts s) : PlanParts (acceptRequest p r s) := by
  have hc := acceptRequest_accepted p r s
  generalize acceptRequest p r s = t at hc ⊢
  cases hc <;> exact h.of_same

theorem decideGrant_planParts (memReady : Bool) {s : State} (h : PlanParts s) : PlanParts (decideGrant memReady s) := by
  have hc := decideGrant_granted memReady s
  generalize decideGrant memReady s = t at hc ⊢
  cases hc with
  | none => exact h
  | head => exact h.of_same
  | write => exact h.of_same

theorem Idle.planParts {s t : State} (hs : Idle s t) (h : PlanParts s) : PlanParts t :=
  h.of_same hs.plans hs.check (by rw [hs.sched]) (by rw [hs.sched])

/-- The gate law and the plan law together. -/
structure Planned (s : State) : Prop where
  gate : GateParts s
  plan : PlanParts s

theorem Act.planned {s t : State} (ha : Act s t) (h : Planned s) : Planned t :=
  ⟨ha.gateParts h.gate, ha.planParts h.gate h.plan⟩

/-- Settles O16: every act and every other event keeps the gate law and the plan law together. -/
theorem stepKeepsThePlanLaw : Obligations.StepKeepsThePlanLaw := by
  intro s t hgate hplan ht
  rw [gateLaw_iff] at hgate
  rw [planLaw_iff] at hplan ⊢
  have hreset (plans : PerPlan Plan) (s : State) (hplans : plans = plansAfterReset s.plans ∨ plans = State.reset.plans) :
      Planned (resetWith plans s) := ⟨resetWith_gateParts plans s, .of_reset (s := s) hplans rfl rfl⟩
  have hkept := step_keeps (P := Planned) (fun hs h => ⟨h.gate.of_frame hs.gateFrame, hs.planParts h.plan⟩) Act.planned
    (fun s _ => ⟨hreset _ s (.inr rfl), hreset _ s (.inl rfl)⟩)
    (fun p _ h => ⟨resetPort_gateParts p h.gate, h.plan.of_same⟩)
    (fun p r _ hready _ h => ⟨acceptRequest_gateParts p r hready h.gate, acceptRequest_planParts p r h.plan⟩)
    (fun memReady _ h => ⟨decideGrant_gateParts memReady h.gate, decideGrant_planParts memReady h.plan⟩) ht ⟨hgate, hplan⟩
  exact hkept.plan

end Sys2Proof.Machine
end

section
/-! SUPPORT. How long a check takes (R19, R20): every tick makes one visit more, until the visits of the finding are made,
and the tick after them finds the check complete. And what its completion writes (R21). -/

namespace Sys2Proof.Machine

-- One proof at a time, as in the sections before.
set_option Elab.async false

/-! ### The number of visits -/

section
variable {p : Plan}

theorem visits_noWindows (h : p.windowCount = 0) : visits p = 0 := by simp [visits, finding_noWindows h]

theorem visits_windowUnset {i : Nat} (h : unsetWindow p = some i) : visits p = i + 1 := by
  simp [visits, finding_windowUnset h]

theorem visits_allQuiet (h : finding p = some .allQuiet) : visits p = p.windowCount := by simp [visits, h]

/-- The visits of a finding in region `i`: the windows, and the regions up to it. -/
theorem visits_of_regionFinding {i : Nat} {f : CheckFailure} (h : finding p = some f) (hf : regionFinding p i = some f) :
    visits p = p.windowCount + i + 1 := by
  unfold regionFinding at hf
  split_ifs at hf <;> cases hf <;> simp [visits, h]

/-- A plan that reaches the last tests has every window and every region visited. -/
theorem visits_of_lastTests {o : Option Port} (h : finding p = o.map .stranded) : visits p = p.windowCount + p.regionCount := by
  cases o <;> simp [visits, h]

/-- With the windows written, every window is visited. -/
theorem windowCount_le_visits (hcount : p.windowCount ≠ 0) (hset : unsetWindow p = none) : p.windowCount ≤ visits p := by
  have hfinding := finding_of_windows hcount hset
  split_ifs at hfinding
  · exact (visits_allQuiet hfinding).ge
  · cases hfirst : (List.range p.regionCount).findSome? (regionFinding p) with
    | none =>
      rw [hfirst] at hfinding
      have := visits_of_lastTests hfinding
      omega
    | some f =>
      rw [hfirst] at hfinding
      obtain ⟨j, -, hj⟩ := List.exists_of_findSome?_eq_some hfirst
      have := visits_of_regionFinding hfinding hj
      omega

/-- With the windows written and the regions below `i` passed, region `i` is visited. -/
theorem lt_visits_of_regions {i : Nat} (hi : i < p.regionCount) (hcount : p.windowCount ≠ 0) (hset : unsetWindow p = none)
    (hloud : (windowsBelow p p.windowCount).all quietWindow = false) (hpassed : ∀ j < i, regionFinding p j = none) :
    p.windowCount + i < visits p := by
  have hfinding := finding_of_windows hcount hset
  rw [hloud] at hfinding
  cases hfirst : (List.range p.regionCount).findSome? (regionFinding p) with
  | none =>
    rw [hfirst] at hfinding
    have := visits_of_lastTests hfinding
    omega
  | some f =>
    rw [hfirst] at hfinding
    obtain ⟨j, -, hj⟩ := List.exists_of_findSome?_eq_some hfirst
    have hij : ¬ j < i := fun hlt => by simp [hpassed j hlt] at hj
    have := visits_of_regionFinding hfinding hj
    omega

/-- With the windows below `i` written, window `i` is visited. -/
theorem lt_visits_of_windows {i : Nat} (hi : i < p.windowCount) (hset : ∀ j < i, (windowAt p j).length ≠ 0) : i < visits p := by
  cases hunset : unsetWindow p with
  | none => exact hi.trans_le (windowCount_le_visits (by omega) hunset)
  | some j =>
    have hj := List.find?_some hunset
    have hij : ¬ j < i := fun hlt => hset j hlt (by simpa using hj)
    have := visits_windowUnset hunset
    omega

/-! ### One visit at each tick -/

/-- The visits made at a point of a check; all of them at its finding. -/
def visitsMade (p : Plan) : CheckPoint → Nat
  | .window i => i
  | .region i => p.windowCount + i
  | .finish _ => visits p

/-- The check has visits still to make. -/
def Unfinished (c : CheckRun) : Prop := ∀ f, c.point ≠ .finish f

theorem visitsMade_lt {c : CheckRun} (h : CheckProgress p c) (hc : Unfinished c) : visitsMade p c.point < visits p := by
  obtain ⟨n, point, built, due⟩ := c
  cases point with
  | window i =>
    obtain ⟨hi, hset, -⟩ := h
    exact lt_visits_of_windows hi hset
  | region i =>
    obtain ⟨hi, hcount, hset, hloud, hpassed, -⟩ := h
    exact lt_visits_of_regions hi hcount hset hloud hpassed
  | finish f => exact absurd rfl (hc f)

theorem due_of_unfinished {c : CheckRun} (h : CheckProgress p c) (hc : Unfinished c) : c.due = false := by
  obtain ⟨n, point, built, due⟩ := c
  cases point with
  | window i => obtain ⟨-, -, -, hdue⟩ := h; exact hdue
  | region i => obtain ⟨-, -, -, -, -, -, hdue⟩ := h; exact hdue
  | finish f => exact absurd rfl (hc f)

theorem visitsMade_firstPoint : visitsMade p (firstPoint p) = 0 := by
  unfold firstPoint
  split
  · rename_i h; exact visits_noWindows h
  · rfl

/-- The point after `i` regions, the finding being the one CHECK makes. -/
theorem visitsMade_regionPoint {d : Derived} {i : Nat} (hi : i ≤ p.regionCount)
    (hfound : ∀ f, regionPoint p d i = .finish f → f = finding p) : visitsMade p (regionPoint p d i) = p.windowCount + i := by
  unfold regionPoint at hfound ⊢
  split_ifs at hfound ⊢ with hmore
  · rfl
  · have hlast := visits_of_lastTests (hfound _ rfl).symm
    obtain rfl : i = p.regionCount := by omega
    exact hlast

theorem visitsMade_visitWindow {d : Derived} {i : Nat} (hi : i < p.windowCount)
    (hset : ∀ j < i, (windowAt p j).length ≠ 0) (hfound : ∀ f, (visitWindow p d i).1 = .finish f → f = finding p) :
    visitsMade p (visitWindow p d i).1 = i + 1 := by
  by_cases hw : (windowAt p i).length = 0
  · simp only [visitWindow, hw, if_true, visitsMade]
    exact visits_windowUnset (unsetWindow_eq_some hi hw hset)
  · simp only [visitWindow, hw, if_false, afterWindows] at hfound ⊢
    split_ifs at hfound ⊢ with hmore hquiet
    · rfl
    · have := visits_allQuiet (hfound _ rfl).symm
      simp only [visitsMade]
      omega
    · have := visitsMade_regionPoint (Nat.zero_le _) hfound
      omega

theorem visitsMade_visitRegion {d : Derived} {i : Nat} (hi : i < p.regionCount)
    (hfound : ∀ f, visitRegion p d i = .finish f → f = finding p) : visitsMade p (visitRegion p d i) = p.windowCount + i + 1 := by
  unfold visitRegion at hfound ⊢
  dsimp only at hfound ⊢
  split_ifs at hfound ⊢ with hsize hrange
  · exact visits_of_regionFinding (hfound _ rfl).symm (if_pos hsize)
  · exact visits_of_regionFinding (hfound _ rfl).symm ((if_neg hsize).trans (if_pos hrange))
  · exact visitsMade_regionPoint hi hfound

/-- A tick makes one visit. -/
theorem visitsMade_tick {c : CheckRun} (h : CheckProgress p c) (hc : Unfinished c) :
    visitsMade p (tickCheckRun p c).point = visitsMade p c.point + 1 := by
  have hnext := tickCheckRun_progress h
  have hfound (f : Option CheckFailure) (hf : (tickCheckRun p c).point = .finish f) : f = finding p := by
    unfold CheckProgress at hnext
    rw [hf] at hnext
    exact hnext.1
  obtain ⟨n, point, built, due⟩ := c
  cases point with
  | window i =>
    obtain ⟨hi, hset, -⟩ := h
    exact visitsMade_visitWindow hi hset hfound
  | region i =>
    obtain ⟨hi, -⟩ := h
    exact visitsMade_visitRegion hi hfound
  | finish f => exact absurd rfl (hc f)

/-! ### All ticks -/

/-- Where a check stands after `k` ticks (R19, R20). -/
structure StandsAt (p : Plan) (n : PlanName) (k : Nat) (c : CheckRun) : Prop where
  plan : c.plan = n
  progress : CheckProgress p c
  made : Unfinished c → visitsMade p c.point = k
  done : ¬ Unfinished c → visits p ≤ k
  due : c.due = true ↔ visits p + 1 ≤ k

theorem standsAt_first (p : Plan) (n : PlanName) : StandsAt p n 0 ⟨n, firstPoint p, Derived.zero, false⟩ where
  plan := rfl
  progress := firstPoint_progress p n
  made _ := visitsMade_firstPoint
  done hc := by
    simp only [Unfinished, not_forall, not_not] at hc
    obtain ⟨f, hf⟩ := hc
    have hzero := visitsMade_firstPoint (p := p)
    rw [hf] at hzero
    exact hzero.le
  due := by simp

theorem tickCheckRun_finished {c : CheckRun} (hc : ¬ Unfinished c) : tickCheckRun p c = { c with due := true } := by
  simp only [Unfinished, not_forall, not_not] at hc
  obtain ⟨f, hf⟩ := hc
  simp [tickCheckRun, hf]

theorem StandsAt.tick {n : PlanName} {k : Nat} {c : CheckRun} (h : StandsAt p n k c) : StandsAt p n (k + 1) (tickCheckRun p c) := by
  have hplan := (tickCheckRun_plan p c).trans h.plan
  have hnext := tickCheckRun_progress h.progress
  by_cases hc : Unfinished c
  · have hmade := visitsMade_tick h.progress hc
    have hlt := visitsMade_lt h.progress hc
    rw [h.made hc] at hmade hlt
    have hdue : (tickCheckRun p c).due = false := by
      have hd := due_of_unfinished h.progress hc
      obtain ⟨n, point, built, due⟩ := c
      cases point with
      | window i => exact hd
      | region i => exact hd
      | finish f => exact absurd rfl (hc f)
    refine ⟨hplan, hnext, fun _ => hmade, fun hf => ?_, ?_⟩
    · simp only [Unfinished, not_forall, not_not] at hf
      obtain ⟨f, hf⟩ := hf
      rw [hf] at hmade
      exact hmade.le
    · rw [hdue]
      exact iff_of_false (by simp) (by omega)
  · have hdone := h.done hc
    have hsame := tickCheckRun_finished (p := p) hc
    have hc' : ¬ Unfinished (tickCheckRun p c) := by rw [hsame]; exact hc
    refine ⟨hplan, hnext, fun hu => absurd hu hc', fun _ => by omega, ?_⟩
    rw [hsame]
    exact iff_of_true rfl (by omega)

theorem standsAt_iterate (p : Plan) (n : PlanName) (k : Nat) :
    StandsAt p n k ((tickCheckRun p)^[k] ⟨n, firstPoint p, Derived.zero, false⟩) := by
  induction k with
  | zero => exact standsAt_first p n
  | succ k ih =>
    rw [Function.iterate_succ_apply']
    exact ih.tick

/-- With the visits made the check stands at its finding. -/
theorem StandsAt.found {n : PlanName} {k : Nat} {c : CheckRun} (h : StandsAt p n k c) (hk : visits p ≤ k) :
    c.point = .finish (finding p) ∧ c.built = derivedOf (foldedWindows p) ∧ c.plan = n := by
  have hc : ¬ Unfinished c := fun hc => by
    have := visitsMade_lt h.progress hc
    rw [h.made hc] at this
    omega
  simp only [Unfinished, not_forall, not_not] at hc
  obtain ⟨f, hf⟩ := hc
  have hprogress := h.progress
  unfold CheckProgress at hprogress
  rw [hf] at hprogress
  obtain ⟨rfl, hbuilt⟩ := hprogress
  exact ⟨hf, hbuilt, h.plan⟩

end

/-- Settles O36: after `k` ticks a check has made `k` visits, or is at its finding. -/
theorem checkTakesItsTicks : Obligations.CheckTakesItsTicks := by
  intro n p k
  have h := standsAt_iterate p n k
  exact ⟨h.due, h.found⟩

/-! ### The completion -/

/-- Settles O37: by the plan law the check stands at what CHECK finds, with the values of the windows it folded. -/
theorem checkCompletionWritesTheReport : Obligations.CheckCompletionWritesTheReport := by
  intro s n f d hreset hplan hcheck
  obtain ⟨rfl, rfl⟩ : f = finding (s.plans.get n) ∧ d = derivedOf (foldedWindows (s.plans.get n)) :=
    (planLaw_iff.mp hplan).progress _ hcheck
  have hreport : checkReport (s.plans.get n) (derivedOf (foldedWindows (s.plans.get n))) (finding (s.plans.get n)) =
      match finding (s.plans.get n) with
      | none => passedReport (s.plans.get n)
      | some x => .failed x := by
    cases hf : finding (s.plans.get n) with
    | none =>
      rw [foldedWindows_of_set (passes_of_finding hf).set]
      exact checkReport_passed hf
    | some x => rfl
  have hq : (quiet s).check = s.check := rfl
  rw [exec, execCheckCompletion, onEvent_of_running hreset]
  simp only [completeCheck, hq, hcheck, raise_eq, mapPlan, checkedPlan, quiet_plans, hreport]
  rfl

end Sys2Proof.Machine
end

section
/-! SUPPORT. Laws kept one on another, and the traffic under the active plan over every step: held requests admitted and
costed (R77, R79, R88), and posting plans those of the active plan (R107, R110, R112). -/

namespace Sys2Proof.Machine

-- One proof at a time, as in the sections before.
set_option Elab.async false

/-! ### Laws kept one on another -/

/-- Where `P` holds, every act and every other event keeps `Q`. -/
structure KeptUnder (P Q : State → Prop) : Prop where
  still : ∀ {s t : State}, Still s t → Q s → Q t
  act : ∀ {s t : State}, Act s t → P s → Q s → Q t
  reset : ∀ {plans : PerPlan Plan} {s : State}, plans = plansAfterReset s.plans ∨ plans = State.reset.plans → Q s →
    Q (resetWith plans s)
  linkReset : ∀ {p : Port} {s : State}, Q s → Q (resetPort p s)
  arrival : ∀ {p : Port} {r : Request} {s : State}, portReady s p = true → r.wellFormed = true → P s → Q s →
    Q (acceptRequest p r s)
  grant : ∀ {memReady : Bool} {s : State}, P s → Q s → Q (decideGrant memReady s)

/-- A law that every act and every other event keeps. -/
abbrev Kept (P : State → Prop) : Prop := KeptUnder (fun _ => True) P

theorem Kept.step {P : State → Prop} (h : Kept P) {s t : State} (ht : step s = .next t) (hs : P s) : P t :=
  step_keeps h.still (fun ha => h.act ha trivial) (fun _ hs => ⟨h.reset (.inr rfl) hs, h.reset (.inl rfl) hs⟩)
    (fun _ _ => h.linkReset) (fun _ _ _ hready hr => h.arrival hready hr trivial) (fun _ _ => h.grant trivial) ht hs

theorem Kept.acts {P : State → Prop} (h : Kept P) {s t : State} (hc : Acts s t) (hs : P s) : P t :=
  hc.keeps (fun ha => h.act ha trivial) hs

theorem Kept.and {P Q : State → Prop} (hP : Kept P) (hQ : KeptUnder P Q) : Kept (fun s => P s ∧ Q s) where
  still hs h := ⟨hP.still hs h.1, hQ.still hs h.2⟩
  act ha _ h := ⟨hP.act ha trivial h.1, hQ.act ha h.1 h.2⟩
  reset hplans h := ⟨hP.reset hplans h.1, hQ.reset hplans h.2⟩
  linkReset h := ⟨hP.linkReset h.1, hQ.linkReset h.2⟩
  arrival hready hr _ h := ⟨hP.arrival hready hr trivial h.1, hQ.arrival hready hr h.1 h.2⟩
  grant _ h := ⟨hP.grant trivial h.1, hQ.grant h.1 h.2⟩

theorem planned_kept : Kept Planned where
  still hs h := ⟨h.gate.of_frame hs.gateFrame, hs.planParts h.plan⟩
  act ha _ h := ha.planned h
  reset hplans _ := ⟨resetWith_gateParts _ _, .of_reset hplans rfl rfl⟩
  linkReset h := ⟨resetPort_gateParts _ h.gate, h.plan.of_same⟩
  arrival hready _ _ h := ⟨acceptRequest_gateParts _ _ hready h.gate, acceptRequest_planParts _ _ h.plan⟩
  grant _ h := ⟨decideGrant_gateParts _ h.gate, decideGrant_planParts _ h.plan⟩

/-! ### The active plan over the acts -/

theorem walking_of_gate {s t : State} (h : t.sched.gate = s.sched.gate := by rfl) : walking t = walking s := by
  simp only [walking, h]

theorem not_walking {s : State} (h : s.sched.gate ≠ .running ∧ s.sched.gate ≠ .halting) : walking s = false := by
  simp [walking, h]

theorem activePlan_of_plans {s t : State} (h : t.plans = s.plans := by rfl) : activePlan t = activePlan s := by
  simp only [activePlan, h]

theorem governing_of_activePlan {s : State} {n : PlanName} (h : activePlan s = some n) : governing s = s.plans.get n := by
  simp [governing, h]

/-- The active plan, and its contents, are left. -/
structure SamePlan (s t : State) : Prop where
  active : activePlan t = activePlan s
  governing : governing t = governing s

theorem SamePlan.of_plans {s t : State} (h : t.plans = s.plans := by rfl) : SamePlan s t :=
  ⟨activePlan_of_plans h, governing_of_plans h⟩

theorem SamePlan.of_set {s t : State} {n : PlanName} {p : Plan} (h : t.plans = s.plans.set n p)
    (hs : (s.plans.get n).state ≠ .active) (hp : p.state ≠ .active) : SamePlan s t := by
  have hmap : t.plans = (mapPlan n (fun _ => p) s).plans := h
  obtain ⟨hactive, hgov⟩ := governing_mapPlan (f := fun _ => p) hs hp
  exact ⟨(activePlan_of_plans hmap).trans hactive, (governing_of_plans hmap).trans hgov⟩

theorem SamePlan.get {s t : State} (h : SamePlan s t) {n : PlanName} (hn : activePlan s = some n) :
    t.plans.get n = s.plans.get n := by
  have hg := h.governing
  rwa [governing_of_activePlan hn, governing_of_activePlan (h.active.trans hn)] at hg

theorem PlanParts.other_of_active {s : State} (h : PlanParts s) {n : PlanName} (hn : activePlan s = some n) :
    (s.plans.get n.other).state ≠ .active := by
  have hs := activePlan_state hn
  cases n
  · exact fun ho => h.one ⟨hs, ho⟩
  · exact fun ho => h.one ⟨ho, hs⟩

theorem TakesContents.not_active {s : State} {n : PlanName} (h : TakesContents s n) (hp : PlanParts s) :
    (s.plans.get n).state ≠ .active := by
  rcases h.active with ha | ha
  · exact ha
  · have ho := hp.other_of_active ha
    cases n <;> exact ho

theorem checkedPlan_not_active (d : Derived) (f : Option CheckFailure) (p : Plan) : (checkedPlan d f p).state ≠ .active := by
  simp only [checkedPlan]
  split_ifs <;> simp

theorem PlanParts.checking {s : State} (h : PlanParts s) {c : CheckRun} (hc : s.check = some c) :
    (s.plans.get c.plan).state = .checking := (h.checking_iff _).mpr (by rw [hc]; rfl)

/-- After a swap the plan swapped to is the active one. -/
theorem activePlan_swappedTo (n : PlanName) (s : State) : activePlan (swappedTo n s) = some n := by
  cases n
  · simp [activePlan, swappedTo, PerPlan.set, PlanName.other]
  · have hold : ¬ (swappedTo .b s).plans.a.state = .active := by
      have hget := swappedTo_get .b .a s
      simp only [PerPlan.get, reduceCtorEq, if_false] at hget
      rw [hget]
      by_cases h : s.plans.a.state = .active <;> simp [h]
    have hnew : (swappedTo .b s).plans.b.state = .active := by simp [swappedTo, PerPlan.set, PlanName.other]
    simp [activePlan, hold, hnew]

/-! ### What a passed verdict says -/

/-- The region checker passes a request that lies in a counted region that grants its kind, and whose cost fits the longest
window open to its port (R69 to R73). -/
theorem inRegion_of_pass {plan : Plan} {p : Port} {kind : Kind} {a : Addr} {beats i : Nat} {posting : Bool}
    (h : verdict plan p kind a beats = .pass i posting) :
    InRegion plan p kind a beats ∧ plan.overhead + beats * plan.beatCost ≤ plan.derived.longestOpen.get p := by
  cases hfind : decidingRegion plan a with
  | none => simp [verdict, regionCheck, hfind] at h
  | some x =>
    obtain ⟨r, j⟩ := x
    obtain ⟨hj, rfl⟩ := eq_regionAt_of_countedRegions (List.mk_mem_zipIdx_iff_getElem?.mp (List.mem_of_find?_eq_some hfind))
    have hcontains : regionContains (regionAt plan j) a = true :=
      List.find?_some (p := fun x : Region × Nat => regionContains x.1 a) hfind
    obtain ⟨hlow, -⟩ := (regionContains_iff _ _).mp hcontains
    by_cases hspan : spanInside (regionAt plan j) a beats = true
    · by_cases hright : rightCovers ((regionAt plan j).rights.get p) kind = true
      · simp only [verdict, regionCheck, hfind, hspan, hright, Bool.not_true, Bool.false_eq_true, if_false] at h
        split_ifs at h with hcost
        have hend : a.toNat + beats * 8 ≤ (regionAt plan j).base.toNat + (regionAt plan j).size := of_decide_eq_true hspan
        exact ⟨⟨j, hj, hlow, by omega, (rightCovers_iff _ _).mp hright⟩, hcost⟩
      · simp [verdict, regionCheck, hfind, hspan, hright] at h
    · simp [verdict, regionCheck, hfind, hspan] at h

/-! ### Held requests -/

/-- A held request is one the plan admits and has costed (R77, R79, R88). -/
def HeldFits (plan : Plan) (p : Port) (h : Held) : Prop :=
  InRegion plan p h.kind h.addr h.beats ∧ h.cost = some (plan.overhead + h.beats * plan.beatCost)
    ∧ plan.overhead + h.beats * plan.beatCost ≤ plan.derived.longestOpen.get p

/-- Every request of every queue fits the governing plan. -/
def QueuesFit (s : State) : Prop := ∀ p, ∀ h ∈ (s.ports.get p).queue, HeldFits (governing s) p h

theorem heldLaw_iff {s : State} : HeldLaw s ↔ (walking s = true → QueuesFit s) := Iff.rfl

theorem HeldLaw.of_stopped {t : State} (hw : walking t = false) : HeldLaw t :=
  fun h => absurd (hw.symm.trans h) Bool.false_ne_true

/-- The active plan is left, a gate that walks walked, and what is held now was held. -/
theorem HeldLaw.of_queues {s t : State} (h : HeldLaw s) (hplan : SamePlan s t) (hw : walking t = true → walking s = true)
    (hq : ∀ p, ∀ x ∈ (t.ports.get p).queue, ∃ y ∈ (s.ports.get p).queue,
      x.kind = y.kind ∧ x.addr = y.addr ∧ x.beats = y.beats ∧ x.cost = y.cost) : HeldLaw t := by
  refine heldLaw_iff.mpr fun ht p x hx => ?_
  obtain ⟨y, hy, hkind, haddr, hbeats, hcost⟩ := hq p x hx
  unfold HeldFits
  rw [hplan.governing, hkind, haddr, hbeats, hcost]
  exact heldLaw_iff.mp h (hw ht) p y hy

theorem HeldLaw.of_subset {s t : State} (h : HeldLaw s) (hplan : SamePlan s t) (hw : walking t = true → walking s = true)
    (hq : ∀ p, (t.ports.get p).queue ⊆ (s.ports.get p).queue) : HeldLaw t :=
  h.of_queues hplan hw fun p x hx => ⟨x, hq p hx, rfl, rfl, rfl, rfl⟩

theorem HeldLaw.of_same {s t : State} (h : HeldLaw s) (hports : t.ports = s.ports := by rfl)
    (hplans : t.plans = s.plans := by rfl) (hgate : t.sched.gate = s.sched.gate := by rfl) : HeldLaw t :=
  h.of_subset (.of_plans hplans) (fun hw => (walking_of_gate hgate).symm.trans hw) fun p => by rw [hports]; exact fun _ => id

/-- What stays after plan entry fits the plan entered (R88). -/
theorem enteredFrom_queuesFit (s : State) : QueuesFit (enteredFrom s) := by
  intro p x hx
  simp only [enteredFrom, perPort_get, List.mem_map, List.mem_filter] at hx
  obtain ⟨h, ⟨-, hpass⟩, rfl⟩ := hx
  have hgov : governing (enteredFrom s) = governing s := governing_of_plans rfl
  unfold HeldFits
  rw [hgov]
  cases hv : verdict (governing s) p h.kind h.addr h.beats with
  | pass i posting =>
    obtain ⟨hregion, hcost⟩ := inRegion_of_pass hv
    exact ⟨hregion, rfl, hcost⟩
  | denied reason => simp [entryRefusal, refusalOf, hv] at hpass
  | tooLong reason => simp [entryRefusal, refusalOf, hv] at hpass

theorem subset_of_set {x : PerPort PortUnit} {p : Port} {u : PortUnit} (hu : u.queue ⊆ (x.get p).queue) (q : Port) :
    ((x.set p u).get q).queue ⊆ (x.get q).queue := by
  rw [PerPort.get_set]
  split_ifs with hq
  · exact hq ▸ hu
  · exact fun _ => id

theorem completeEntry_heldLaw {s : State} {e : IssueEntry} {m : MemResponse} (h : HeldLaw s) : HeldLaw (completeEntry e m s) := by
  have hc := completeEntry_completed e m s
  generalize completeEntry e m s = t at hc ⊢
  cases hc with
  | orphan => exact h
  | okay => exact h.of_subset .of_plans id (subset_of_set fun _ => id)
  | fault => exact h.of_subset .of_plans id (subset_of_set fun _ => id)
  | unmatched => exact h
  | freed => exact h.of_same
  | lost => exact h.of_same

theorem Act.heldLaw {s t : State} (ha : Act s t) (hs : Planned s) (h : HeldLaw s) : HeldLaw t := by
  cases ha with
  | same hsame => exact h.of_same hsame.ports hsame.plans (by rw [hsame.sched])
  | tickDeadlines =>
    refine h.of_queues .of_plans id fun p x hx => ?_
    rw [tickDeadlines_queue] at hx
    obtain ⟨y, hy, rfl⟩ := List.mem_map.mp hx
    exact ⟨y, hy, rfl, rfl, rfl, rfl⟩
  | tickMemory => exact h.of_same
  | tickCheck => exact h.of_same
  | tickReset =>
    unfold Machine.tickReset
    split
    · exact h.of_same
    · exact h
  | oweWalk => exact h.of_same
  | endPulses => exact h.of_same
  | advance => exact h.of_same
  | nextWindow => exact h.of_same
  | nextFrame => exact h.of_same
  | swap => exact heldLaw_iff.mpr fun _ => enteredFrom_queuesFit _
  | beginFrame => exact h.of_same
  | rewind => exact h.of_same
  | stop => exact .of_stopped (by simp [walking, stoppedFrom])
  | run => exact heldLaw_iff.mpr fun _ => enteredFrom_queuesFit _
  | late p hfind => exact expireOne_eq hfind ▸ h.of_subset .of_plans id (subset_of_set fun _ => List.mem_of_mem_eraseP)
  | complete hcheck =>
    refine h.of_subset (.of_set rfl ?_ (checkedPlan_not_active _ _ _)) id fun _ _ => id
    exact fun hactive => by simp [hs.plan.checking hcheck] at hactive
  | fail => exact .of_stopped (by simp [walking, failedFrom])
  | respond m => exact completeEntry_heldLaw h.of_same
  | endPulse => exact h.of_same
  | recovered => exact .of_stopped (by simp [walking, stoppedFrom])
  | endWait => exact h.of_same
  | resetStep => exact .of_stopped rfl
  | capture => exact h.of_same
  | captureTaken => exact h.of_same
  | emptyFault => exact h.of_same
  | setSync => exact h.of_same
  | setDevice =>
    rw [setDevice_eq, clearQueue_eq]
    split
    · exact h.of_subset .of_plans id (subset_of_set (List.nil_subset _))
    · exact h.of_same
  | write hn hp => exact h.of_subset (.of_set rfl (hn.not_active hs.plan) (by simp [hp.1])) id fun _ _ => id
  | beginCheck hactive => exact h.of_subset (.of_set rfl hactive (by simp)) id fun _ _ => id
  | activate hg => exact .of_stopped (by simp [walking, swappedTo, hg])
  | pend => exact h.of_same
  | withdraw => exact h.of_same
  | arm => exact .of_stopped (by simp [walking])
  | halt hg => exact h.of_subset .of_plans (fun _ => by simp [walking, hg]) fun _ _ => id
  | recover => exact h.of_same
  | beginReset hg =>
    unfold Machine.beginReset
    rw [clearQueue_eq]
    exact .of_stopped (by simp [walking, hg])

/-- A request that the checker passed joins its queue with its cost under the governing plan (R58, R82). -/
theorem joinQueue_heldLaw {s : State} {p : Port} {r : Request} (h : HeldLaw s) (hcheck : Checked s p r) :
    HeldLaw (joinQueue p r s) := by
  refine heldLaw_iff.mpr fun hjoined q x hx => ?_
  have hw : walking s = true := hjoined
  have hgov : governing (joinQueue p r s) = governing s := governing_of_plans rfl
  rw [hgov]
  simp only [joinQueue, mapPort, PerPort.get_set] at hx
  split_ifs at hx with hq
  · subst hq
    obtain hx | rfl := List.mem_append.mp hx |>.imp_right List.mem_singleton.mp
    · exact heldLaw_iff.mp h hw q x hx
    · obtain ⟨i, posting, hv⟩ := hcheck hw
      obtain ⟨hregion, hcost⟩ := inRegion_of_pass hv
      exact ⟨hregion, by simp [heldRecord, hw, planCost], hcost⟩
  · exact heldLaw_iff.mp h hw q x hx

theorem heldLaw_kept : KeptUnder Planned HeldLaw where
  still hs h := h.of_subset (.of_plans hs.plans) (fun hw => (walking_of_gate (by rw [hs.sched])).symm.trans hw)
    fun p => by rw [hs.queue]; exact fun _ => id
  act ha hs h := ha.heldLaw hs h
  reset _ _ := .of_stopped rfl
  linkReset h := h.of_subset .of_plans id (subset_of_set (List.nil_subset _))
  arrival {p r s} _ _ _ h := by
    have hc := acceptRequest_accepted p r s
    generalize acceptRequest p r s = t at hc ⊢
    cases hc with
    | faulted => exact h.of_same
    | rejected => exact h.of_same
    | posted => exact h.of_same
    | held _ _ hcheck => exact joinQueue_heldLaw h hcheck
  grant {memReady s} _ h := by
    have hc := decideGrant_granted memReady s
    generalize decideGrant memReady s = t at hc ⊢
    cases hc with
    | none => exact h
    | head _ hqueue => exact h.of_subset .of_plans id (subset_of_set (by simp [hqueue]))
    | write => exact h.of_same

/-! ### Posted entries -/

/-- The active plan is left, and every entry with a posting plan was in the buffer with it. -/
theorem PostingLaw.of_entries {s t : State} (h : PostingLaw s) (hplan : SamePlan s t)
    (he : ∀ e ∈ t.posted, e.plan ≠ none → ∃ o ∈ s.posted, e.plan = o.plan ∧ e.beats = o.beats ∧ e.port = o.port) :
    PostingLaw t := by
  intro e hmem n hn
  obtain ⟨o, ho, heq, hbeats, hport⟩ := he e hmem (by simp [hn])
  obtain ⟨hactive, hcost⟩ := h o ho n (heq.symm.trans hn)
  rw [hplan.active, hplan.get hactive, hbeats, hport]
  exact ⟨hactive, hcost⟩

theorem PostingLaw.of_subset {s t : State} (h : PostingLaw s) (hplan : SamePlan s t) (he : t.posted ⊆ s.posted) :
    PostingLaw t := h.of_entries hplan fun e hmem _ => ⟨e, he hmem, rfl, rfl, rfl⟩

theorem PostingLaw.of_same {s t : State} (h : PostingLaw s) (hplans : t.plans = s.plans := by rfl)
    (hposted : t.posted = s.posted := by rfl) : PostingLaw t := h.of_subset (.of_plans hplans) (by rw [hposted]; exact fun _ => id)

/-- After a swap to a READY plan no entry names a posting plan (R110). -/
theorem PostingLaw.swap {s : State} (h : PostingLaw s) {n : PlanName}
    (hready : (s.plans.get n).state = .ready) : PostingLaw (swappedTo n s) := by
  intro e he m hm
  simp only [swappedTo, List.mem_map] at he
  obtain ⟨o, ho, rfl⟩ := he
  have hold {k : PlanName} (hk : o.plan = some k) : (s.plans.get n.other).state = .active ∧ k = n.other := by
    have hactive := activePlan_state (h o ho k hk).1
    have hne : k ≠ n := by rintro rfl; simp [hready] at hactive
    have hk : k = n.other := by cases k <;> cases n <;> simp_all [PlanName.other]
    exact ⟨hk ▸ hactive, hk⟩
  split_ifs at hm with hcarried
  obtain ⟨hactive, rfl⟩ := hold hm
  exact absurd ⟨hactive, hm⟩ hcarried

theorem completeEntry_postingLaw {s : State} {e : IssueEntry} {m : MemResponse} (h : PostingLaw s) :
    PostingLaw (completeEntry e m s) := by
  have hc := completeEntry_completed e m s
  generalize completeEntry e m s = t at hc ⊢
  cases hc with
  | orphan => exact h
  | okay => exact h.of_same
  | fault => exact h.of_same
  | unmatched => exact h
  | freed => exact h.of_subset .of_plans fun _ => List.mem_of_mem_eraseP
  | lost => exact h.of_subset .of_plans fun _ => List.mem_of_mem_eraseP

theorem Act.postingLaw {s t : State} (ha : Act s t) (hs : Planned s) (h : PostingLaw s) : PostingLaw t := by
  cases ha with
  | same hsame => exact h.of_same hsame.plans hsame.posted
  | tickDeadlines => exact h.of_same
  | tickMemory => exact h.of_same
  | tickCheck => exact h.of_same
  | tickReset =>
    unfold Machine.tickReset
    split
    · exact h.of_same
    · exact h
  | oweWalk => exact h.of_same
  | endPulses => exact h.of_same
  | advance => exact h.of_same
  | nextWindow => exact h.of_same
  | nextFrame => exact h.of_same
  | @swap n _ hswap =>
    have hleft : PostingLaw { s with sched := { s.sched with pendingSwap := none } } := h.of_same
    exact (hleft.swap (hs.plan.target n hswap).1).of_same
  | beginFrame => exact h.of_same
  | rewind => exact h.of_same
  | stop => exact h.of_same
  | run => exact h.of_same
  | late p hfind => exact expireOne_eq hfind ▸ h.of_same
  | complete hcheck =>
    refine h.of_subset (.of_set rfl ?_ (checkedPlan_not_active _ _ _)) fun _ => id
    exact fun hactive => by simp [hs.plan.checking hcheck] at hactive
  | fail => exact h.of_subset .of_plans fun _ => List.mem_of_mem_filter
  | respond m => exact completeEntry_postingLaw h.of_same
  | endPulse => exact h.of_same
  | recovered => exact h.of_same
  | endWait => exact h.of_same
  | resetStep hdue =>
    obtain ⟨-, -, hnil⟩ := hs.gate.drained_of_due hdue
    intro e he
    have hposted : (Machine.resetStep s).posted = [] := (setDevice_posted _ s).trans hnil
    simp [hposted] at he
  | capture => exact h.of_same
  | captureTaken => exact h.of_same
  | emptyFault => exact h.of_same
  | setSync => exact h.of_same
  | setDevice =>
    rw [setDevice_eq, clearQueue_eq]
    split <;> exact h.of_same
  | write hn hp => exact h.of_subset (.of_set rfl (hn.not_active hs.plan) (by simp [hp.1])) fun _ => id
  | beginCheck hactive => exact h.of_subset (.of_set rfl hactive (by simp)) fun _ => id
  | activate _ hready => exact h.swap hready
  | pend => exact h.of_same
  | withdraw => exact h.of_same
  | arm => exact h.of_same
  | halt => exact h.of_same
  | recover => exact h.of_same
  | beginReset =>
    unfold Machine.beginReset
    rw [clearQueue_eq]
    exact h.of_same

/-- A write is posted under the active plan, and fits the longest retire window of its port (R107). -/
theorem postWrite_postingLaw {s : State} {p : Port} {r : Request} {posting : Bool} (h : PostingLaw s)
    (hpost : mayPost s p r posting = true) : PostingLaw (postWrite p r s) := by
  intro e he n hn
  have hactive : activePlan (postWrite p r s) = activePlan s := activePlan_of_plans
  have hplans : (postWrite p r s).plans = s.plans := rfl
  rw [hactive, hplans]
  simp only [postWrite, give, List.mem_append, List.mem_singleton] at he
  rcases he with he | rfl
  · exact h e he n hn
  · refine ⟨hn, ?_⟩
    obtain ⟨-, -, -, -, -, hcost⟩ := (mayPost_iff posting).mp hpost
    rwa [governing_of_activePlan hn] at hcost

theorem postingLaw_kept : KeptUnder Planned PostingLaw where
  still hs h := h.of_same hs.plans hs.posted
  act ha hs h := ha.postingLaw hs h
  reset _ _ e he := by simp [resetWith, State.reset] at he
  linkReset h := h.of_same
  arrival {p r s} _ _ _ h := by
    have hc := acceptRequest_accepted p r s
    generalize acceptRequest p r s = t at hc ⊢
    cases hc with
    | faulted => exact h.of_same
    | rejected => exact h.of_same
    | posted _ _ _ _ hpost => exact postWrite_postingLaw h hpost
    | held => exact h.of_same
  grant {memReady s} _ h := by
    have hc := decideGrant_granted memReady s
    generalize decideGrant memReady s = t at hc ⊢
    cases hc with
    | none => exact h
    | head => exact h.of_same
    | @write older younger e tag _ hposted =>
      refine h.of_entries .of_plans fun x hx _ => ?_
      rw [hposted]
      simp only [withWriteIssued, List.mem_append, List.mem_cons] at hx
      rcases hx with hx | rfl | hx
      · exact ⟨x, by simp [hx], rfl, rfl, rfl⟩
      · exact ⟨e, by simp, rfl, rfl, rfl⟩
      · exact ⟨x, by simp [hx], rfl, rfl, rfl⟩

theorem planned_of_laws {s : State} (hgate : GateLaw s) (hplan : PlanLaw s) : Planned s :=
  ⟨gateLaw_iff.mp hgate, planLaw_iff.mp hplan⟩

/-- Settles O18: both laws are kept on top of the gate law and the plan law. -/
theorem stepKeepsTheTrafficLaws : Obligations.StepKeepsTheTrafficLaws :=
  ⟨fun _ _ hgate hplan h ht => ((planned_kept.and heldLaw_kept).step ht ⟨planned_of_laws hgate hplan, h⟩).2,
    fun _ _ hgate hplan h ht => ((planned_kept.and postingLaw_kept).step ht ⟨planned_of_laws hgate hplan, h⟩).2⟩

end Sys2Proof.Machine
end

section
/-! SUPPORT. The ranges of the manual's tables over every step: the position of the walk (R29, R48), the contents and derived
values of the plans (R2 to R7), and the fields of requests, accesses, reports and records (R49, R56, R82, R128, R144, R153,
R155, R172). -/

namespace Sys2Proof.Machine

-- One proof at a time, as in the sections before.
set_option Elab.async false

/-! ### The position of the walk -/

/-- While the gate walks, the position lies in the governing plan (R48). -/
def Positioned (s : State) : Prop :=
  walking s = true → s.sched.window < (governing s).windowCount ∧ s.sched.offset < (currentWindow s).length

theorem Planned.sound {s : State} (h : Planned s) (hw : walking s = true) : SoundPlan (governing s) :=
  soundPlan_governing (planLaw_iff.mpr h.plan) hw

/-- Every counted window of the governing plan is written (R19). -/
theorem Planned.length_ne_zero {s : State} (h : Planned s) (hw : walking s = true) {i : Nat} (hi : i < (governing s).windowCount) :
    (windowAt (governing s) i).length ≠ 0 := by
  obtain ⟨hfinding, -⟩ := h.sound hw
  exact unsetWindow_eq_none_iff.mp (passes_of_finding hfinding).set i hi

theorem Planned.windowCount_ne_zero {s : State} (h : Planned s) (hw : walking s = true) : (governing s).windowCount ≠ 0 := by
  obtain ⟨hfinding, -⟩ := h.sound hw
  exact (passes_of_finding hfinding).count

namespace Positioned
variable {s t : State}

theorem of_stopped (hw : walking t = false) : Positioned t := fun h => absurd (hw.symm.trans h) Bool.false_ne_true

theorem of_left (h : Positioned s) (hplan : governing t = governing s) (hw : walking t = true → walking s = true)
    (hwindow : t.sched.window = s.sched.window := by rfl) (hoffset : t.sched.offset = s.sched.offset := by rfl) :
    Positioned t := by
  intro ht
  unfold currentWindow
  rw [hplan, hwindow, hoffset]
  exact h (hw ht)

theorem of_same (h : Positioned s) (hplans : t.plans = s.plans := by rfl) (hgate : t.sched.gate = s.sched.gate := by rfl)
    (hwindow : t.sched.window = s.sched.window := by rfl) (hoffset : t.sched.offset = s.sched.offset := by rfl) :
    Positioned t :=
  h.of_left (governing_of_plans hplans) (fun hw => (walking_of_gate hgate).symm.trans hw) hwindow hoffset

/-- At the start of a frame the position lies in any plan that CHECK passes. -/
theorem of_start (h : Planned t) (hwindow : t.sched.window = 0) (hoffset : t.sched.offset = 0) : Positioned t := by
  intro hw
  have hcount := h.windowCount_ne_zero hw
  have hlength := h.length_ne_zero hw (Nat.pos_of_ne_zero hcount)
  unfold currentWindow
  rw [hwindow, hoffset]
  exact ⟨Nat.pos_of_ne_zero hcount, Nat.pos_of_ne_zero hlength⟩

theorem advance (h : Positioned s) (hw : walking s = true) (hdue : expiryDue s = false) :
    Positioned { s with sched := { s.sched with offset := s.sched.offset + 1 } } := by
  intro _
  obtain ⟨hwindow, hoffset⟩ := h hw
  have hlast : s.sched.offset + 1 ≠ (currentWindow s).length := by simpa [expiryDue, hw] using hdue
  exact ⟨hwindow, show s.sched.offset + 1 < (currentWindow s).length by omega⟩

end Positioned

theorem completeEntry_positioned {s : State} {e : IssueEntry} {m : MemResponse} (h : Positioned s) :
    Positioned (completeEntry e m s) := by
  have hc := completeEntry_completed e m s
  generalize completeEntry e m s = t at hc ⊢
  cases hc <;> exact h.of_same

theorem Act.positioned {s t : State} (ha : Act s t) (hs : Planned s) (h : Positioned s) : Positioned t := by
  have ht := ha.planned hs
  cases ha with
  | same hsame => exact h.of_same hsame.plans (by rw [hsame.sched]) (by rw [hsame.sched]) (by rw [hsame.sched])
  | tickDeadlines => exact h.of_same
  | tickMemory => exact h.of_same
  | tickCheck => exact h.of_same
  | tickReset =>
    unfold Machine.tickReset
    split
    · exact h.of_same
    · exact h
  | oweWalk => exact h.of_same
  | endPulses => exact h.of_same
  | advance hw hdue => exact h.advance hw hdue
  | nextWindow hw hmore => exact fun _ => ⟨hmore, Nat.pos_of_ne_zero (hs.length_ne_zero hw hmore)⟩
  | nextFrame => exact .of_start ht rfl rfl
  | swap _ _ hstart => exact .of_start ht hstart.1 hstart.2
  | beginFrame => exact h.of_same
  | rewind => exact .of_start ht rfl rfl
  | stop => exact .of_stopped (by simp [walking, stoppedFrom])
  | run => exact .of_start ht rfl rfl
  | late p hfind => exact expireOne_eq hfind ▸ h.of_same
  | complete hcheck =>
    refine h.of_left (SamePlan.of_set rfl ?_ (checkedPlan_not_active _ _ _)).governing id
    exact fun hactive => by simp [hs.plan.checking hcheck] at hactive
  | fail => exact .of_stopped (by simp [walking, failedFrom])
  | respond m => exact completeEntry_positioned h.of_same
  | endPulse => exact h.of_same
  | recovered => exact .of_stopped (by simp [walking, stoppedFrom])
  | endWait => exact h.of_same
  | resetStep => exact .of_stopped rfl
  | capture => exact h.of_same
  | captureTaken => exact h.of_same
  | emptyFault => exact h.of_same
  | setSync => exact h.of_same
  | setDevice =>
    rw [setDevice_eq, clearQueue_eq]
    split <;> exact h.of_same
  | write hn hp => exact h.of_left (SamePlan.of_set rfl (hn.not_active hs.plan) (by simp [hp.1])).governing id
  | beginCheck hactive => exact h.of_left (SamePlan.of_set rfl hactive (by simp)).governing id
  | activate hg => exact .of_stopped (by simp [walking, swappedTo, hg])
  | pend => exact h.of_same
  | withdraw => exact h.of_same
  | arm => exact .of_stopped (by simp [walking])
  | halt hg => exact h.of_left (governing_of_plans rfl) (fun _ => by simp [walking, hg])
  | recover => exact h.of_same
  | beginReset hg =>
    unfold Machine.beginReset
    rw [clearQueue_eq]
    exact .of_stopped (by simp [walking, hg])

theorem positioned_kept : KeptUnder Planned Positioned where
  still hs h := h.of_same hs.plans (by rw [hs.sched]) (by rw [hs.sched]) (by rw [hs.sched])
  act ha hs h := ha.positioned hs h
  reset _ _ := .of_stopped rfl
  linkReset h := h.of_same
  arrival {p r s} _ _ _ h := by
    have hc := acceptRequest_accepted p r s
    generalize acceptRequest p r s = t at hc ⊢
    cases hc <;> exact h.of_same
  grant {memReady s} _ h := by
    have hc := decideGrant_granted memReady s
    generalize decideGrant memReady s = t at hc ⊢
    cases hc with
    | none => exact h
    | head => exact h.of_same
    | write => exact h.of_same

/-- The laws that the ranges rest on. -/
structure Grounded (s : State) : Prop where
  planned : Planned s
  buffers : BufferParts s
  position : Positioned s

theorem bufferParts_kept : KeptUnder Planned BufferParts where
  still hs h := h.of_frame hs.bufferFrame
  act ha _ h := ha.bufferParts h
  reset _ _ := resetWith_bufferParts _ _
  linkReset h := h.of_frame (resetPort_bufferFrame _ _)
  arrival hready _ _ h := acceptRequest_bufferParts _ _ hready h
  grant _ h := decideGrant_bufferParts _ h

theorem grounded_kept : Kept Grounded where
  still hs h := ⟨planned_kept.still hs h.planned, bufferParts_kept.still hs h.buffers, positioned_kept.still hs h.position⟩
  act ha _ h := ⟨ha.planned h.planned, ha.bufferParts h.buffers, ha.positioned h.planned h.position⟩
  reset hplans h := ⟨planned_kept.reset hplans h.planned, bufferParts_kept.reset hplans h.buffers, positioned_kept.reset hplans h.position⟩
  linkReset h := ⟨planned_kept.linkReset h.planned, bufferParts_kept.linkReset h.buffers, positioned_kept.linkReset h.position⟩
  arrival hready hr _ h := ⟨planned_kept.arrival hready hr trivial h.planned, bufferParts_kept.arrival hready hr h.planned h.buffers,
    positioned_kept.arrival hready hr h.planned h.position⟩
  grant _ h := ⟨planned_kept.grant trivial h.planned, bufferParts_kept.grant h.planned h.buffers, positioned_kept.grant h.planned h.position⟩

theorem Lawful.grounded {s : State} (h : Lawful s) : Grounded s := by
  obtain ⟨-, hbuffer, hgate, hplan, ⟨hposition, -⟩, -⟩ := h
  exact ⟨planned_of_laws hgate hplan, bufferLaw_iff.mp hbuffer, fun hw => ⟨(hposition hw).1, (hposition hw).2.1⟩⟩

/-! ### The ranges by their parts -/

/-- The fields of a held request are in the ranges of Table 5-1. -/
def HeldRange (h : Held) : Prop :=
  SpanRange h.addr h.beats ∧ DataRange h.kind h.beats h.data
    ∧ (∀ c, h.cost = some c → c ≤ 303) ∧ (∀ d, h.deadline = some d → d ≤ 65535)

/-- The fields of a posted entry are in the ranges of Table 6-1. -/
def EntryRange (e : PostedEntry) : Prop := SpanRange e.addr e.beats ∧ DataRange .write e.beats e.data

/-- The fields of an issue-list entry are in the ranges of Table 7-2. -/
def IssueRange (e : IssueEntry) : Prop := SpanRange e.addr e.beats ∧ e.age ≤ 65535

/-- The position fields of a capture are in the ranges of R155. -/
def CaptureRange (c : CapturePosition) : Prop :=
  c.window ≤ 31 ∧ c.offset ≤ 65534 ∧ c.ticks < c.length ∧ c.length ≤ 2097120

/-- The fields of a fault are in their ranges (R173). -/
def InfoRange (i : FaultInfo) : Prop := 1 ≤ i.beats ∧ i.beats ≤ 16 ∧ ∀ w, i.window = some w → w ≤ 31

/-- A fault record is in the ranges of Table 10-2. -/
def RecordRange (r : FaultRecord) : Prop :=
  r.later ≤ 255 ∧ (r.first = none → r.later = 0) ∧ ∀ i, r.first = some i → InfoRange i

/-- The parts of the range law, named. -/
structure RangeParts (s : State) : Prop where
  plans : ∀ n, PlanRange (s.plans.get n)
  window : s.sched.window ≤ 31
  offset : s.sched.offset ≤ 65534
  held : ∀ p, ∀ h ∈ (s.ports.get p).queue, HeldRange h
  posted : ∀ e ∈ s.posted, EntryRange e
  issues : ∀ e ∈ s.mem.issueList, IssueRange e
  report : s.mem.report.lost + s.mem.report.answered ≤ 16
  limit : s.sync.limit ≤ 4095
  capture : ∀ c, s.sync.capture.position = some c → CaptureRange c
  faults : ∀ p, RecordRange (s.events.faults.get p)
  device : DeviceRange s.device

theorem rangeLaw_iff {s : State} : RangeLaw s ↔ RangeParts s :=
  ⟨fun ⟨h1, h2, h3, h4, h5, h6, h7, h8, h9, h10, h11⟩ => ⟨h1, h2, h3, h4, h5, h6, h7, h8, h9, h10, h11⟩,
    fun ⟨h1, h2, h3, h4, h5, h6, h7, h8, h9, h10, h11⟩ => ⟨h1, h2, h3, h4, h5, h6, h7, h8, h9, h10, h11⟩⟩

/-! ### Plans in range -/

theorem planRange_powerOn : PlanRange Plan.powerOn := by
  refine ⟨by decide, by decide, by decide, by decide, ?_, ?_, fun q => by cases q <;> decide, ⟨fun q => by cases q <;> decide, by decide⟩,
    trivial⟩
  · simp [Plan.powerOn, Window.unwritten]
  · simp [Plan.powerOn, Region.unwritten]

theorem planRange_governing_of {s : State} (h : ∀ n, PlanRange (s.plans.get n)) : PlanRange (governing s) := by
  unfold governing
  split
  · exact h _
  · exact planRange_powerOn

theorem planRange_afterReset {p : Plan} (h : PlanRange p) : PlanRange (planAfterReset p) := by
  obtain ⟨hw, hr, ho, hb, hws, hrs, hset, hd, -⟩ := h
  exact ⟨hw, hr, ho, hb, hws, hrs, hset, hd, trivial⟩

theorem planRange_plansAfterReset {plans : PerPlan Plan} (h : ∀ n, PlanRange (plans.get n)) (n : PlanName) :
    PlanRange ((plansAfterReset plans).get n) := by
  cases n
  · exact planRange_afterReset (h .a)
  · exact planRange_afterReset (h .b)

theorem windowAt_range {p : Plan} (h : PlanRange p) (i : Nat) : (windowAt p i).length ≤ 65535 := by
  obtain ⟨-, -, -, -, hws, -⟩ := h
  by_cases hi : i < p.windows.toList.length
  · rw [windowAt, List.getD_eq_getElem _ _ hi]
    exact hws _ (List.getElem_mem hi)
  · rw [windowAt, List.getD_eq_default _ _ (not_lt.mp hi)]
    exact Nat.zero_le _

theorem longest_le {l : List Nat} {b : Nat} (h : ∀ n ∈ l, n ≤ b) : longest l ≤ b := by
  induction l with
  | nil => exact Nat.zero_le _
  | cons n l ih =>
    rw [List.forall_mem_cons] at h
    exact max_le h.1 (ih h.2)

/-- The derived values of up to 32 windows are in range (R6). -/
theorem derivedRange_windowsBelow {p : Plan} (h : PlanRange p) {n : Nat} (hn : n ≤ 32) :
    DerivedRange (derivedOf (windowsBelow p n)) := by
  have hlengths : ∀ w ∈ windowsBelow p n, w.length ≤ 65535 := by
    intro w hw
    obtain ⟨i, -, rfl⟩ := List.mem_map.mp hw
    exact windowAt_range h i
  have hlongest (f : Window → Bool) : longest (((windowsBelow p n).filter f).map (·.length)) ≤ 65535 :=
    longest_le fun k hk => by
      obtain ⟨w, hw, rfl⟩ := List.mem_map.mp hk
      exact hlengths w (List.mem_of_mem_filter hw)
  have hsum : ((windowsBelow p n).map (·.length)).sum ≤ n * 65535 := by
    have hbound := List.sum_le_card_nsmul ((windowsBelow p n).map (·.length)) 65535 fun k hk => by
      obtain ⟨w, hw, rfl⟩ := List.mem_map.mp hk
      exact hlengths w hw
    simpa [windowsBelow] using hbound
  refine ⟨fun q => ?_, show ((windowsBelow p n).map (·.length)).sum ≤ 2097120 by omega⟩
  cases q <;> exact ⟨hlongest _, hlongest _⟩

theorem foldedWindows_range {p : Plan} (h : PlanRange p) : DerivedRange (derivedOf (foldedWindows p)) := by
  obtain ⟨hcount, -⟩ := id h
  refine derivedRange_windowsBelow h ?_
  cases hunset : unsetWindow p with
  | none => exact hcount
  | some i =>
    have hi := List.mem_range.mp (List.mem_of_find?_eq_some hunset)
    exact (hi.trans_le hcount).le

/-- The index of a finding is that of a counted record (R7). -/
theorem reportRange_of_finding {p : Plan} (h : PlanRange p) {f : CheckFailure} (hf : finding p = some f) :
    ReportRange (.failed f) := by
  obtain ⟨hwindows, hregions, -⟩ := h
  by_cases hcount : p.windowCount = 0
  · rw [finding_noWindows hcount] at hf
    obtain rfl := Option.some.inj hf
    trivial
  cases hunset : unsetWindow p with
  | some i =>
    rw [finding_windowUnset hunset] at hf
    obtain rfl := Option.some.inj hf
    have hi := List.mem_range.mp (List.mem_of_find?_eq_some hunset)
    exact Nat.lt_succ_iff.mp (hi.trans_le hwindows)
  | none =>
    rw [finding_of_windows hcount hunset] at hf
    split_ifs at hf
    · obtain rfl := Option.some.inj hf
      trivial
    · cases hfirst : (List.range p.regionCount).findSome? (regionFinding p) with
      | none =>
        rw [hfirst] at hf
        obtain ⟨q, -, rfl⟩ := Option.map_eq_some_iff.mp hf
        trivial
      | some x =>
        rw [hfirst] at hf
        obtain rfl := Option.some.inj hf
        obtain ⟨i, hi, hfound⟩ := List.exists_of_findSome?_eq_some hfirst
        have hi : i ≤ 15 := Nat.lt_succ_iff.mp ((List.mem_range.mp hi).trans_le hregions)
        unfold regionFinding at hfound
        split_ifs at hfound <;> obtain rfl := Option.some.inj hfound <;> exact hi

/-- The completion of a check leaves its plan in range (R20, R21). -/
theorem checkedPlan_range {p : Plan} (h : PlanRange p) : PlanRange (checkedPlan (derivedOf (foldedWindows p)) (finding p) p) := by
  have hreport : ReportRange (checkReport p (derivedOf (foldedWindows p)) (finding p)) := by
    cases hf : finding p with
    | none => trivial
    | some f => exact reportRange_of_finding h hf
  have hderived := foldedWindows_range h
  obtain ⟨hw, hr, ho, hb, hws, hrs, hset, -, -⟩ := h
  exact ⟨hw, hr, ho, hb, hws, hrs, hset, hderived, hreport⟩

/-- The cost of a request of the bus is at most 303 ticks (R5). -/
theorem planCost_le {p : Plan} (h : PlanRange p) {beats : Nat} (hb : beats ≤ 16) : p.overhead + beats * p.beatCost ≤ 303 := by
  obtain ⟨-, -, ho, hc, -⟩ := h
  have hmul := Nat.mul_le_mul hb hc
  omega

/-! ### Faults in range -/

theorem bumped_range {r : FaultRecord} {i : FaultInfo} (hr : RecordRange r) (hi : InfoRange i) : RecordRange (bumped r i) := by
  obtain ⟨hlater, hempty, hfirst⟩ := hr
  unfold bumped
  split_ifs with hnone
  · exact ⟨hlater, fun h => by simp at h, fun x hx => Option.some.inj hx ▸ hi⟩
  · exact ⟨min_le_right _ _, fun h => absurd h hnone, hfirst⟩

theorem foldl_bumped_range {l : List FaultInfo} {r : FaultRecord} (hr : RecordRange r) (hl : ∀ i ∈ l, InfoRange i) :
    RecordRange (l.foldl bumped r) := by
  induction l generalizing r with
  | nil => exact hr
  | cons i l ih =>
    rw [List.forall_mem_cons] at hl
    exact ih (bumped_range hr hl.1) hl.2

theorem recordRange_empty : RecordRange FaultRecord.empty := ⟨Nat.zero_le _, fun _ => rfl, fun i hi => by cases hi⟩

theorem deviceRange_initial : DeviceRange Device.initial := by
  unfold DeviceRange
  decide

theorem faultsTaken_range {f : Port → List FaultInfo} {e : EventUnit} (he : ∀ p, RecordRange (e.faults.get p))
    (hf : ∀ p, ∀ i ∈ f p, InfoRange i) (p : Port) : RecordRange ((faultsTaken f e).faults.get p) := by
  unfold faultsTaken
  split
  · exact he p
  · simpa [eventsWith] using foldl_bumped_range (he p) (hf p)

theorem faultsOf_range {p : Port} {i : FaultInfo} (hi : InfoRange i) : ∀ q, ∀ x ∈ faultsOf p [i] q, InfoRange x := by
  intro q x hx
  unfold faultsOf at hx
  split_ifs at hx
  · exact List.mem_singleton.mp hx ▸ hi
  · cases hx

namespace RangeParts
variable {s t : State}

theorem faultNow (h : RangeParts s) {reason : FaultReason} {tag : Tag} {kind : Kind} {addr : Addr} {beats : Nat}
    (hb : SpanRange addr beats ∨ 1 ≤ beats ∧ beats ≤ 16) : InfoRange (faultNow s reason tag kind addr beats) := by
  have hb : 1 ≤ beats ∧ beats ≤ 16 := by
    rcases hb with ⟨hlow, hhigh, -⟩ | hb
    · exact ⟨hlow, hhigh⟩
    · exact hb
  refine ⟨hb.1, hb.2, fun w hw => ?_⟩
  simp only [Machine.faultNow] at hw
  split_ifs at hw
  exact Option.some.inj hw ▸ h.window

theorem handFault (h : RangeParts s) {p : Port} {i : FaultInfo} (hi : InfoRange i) : RangeParts (handFault p i s) := by
  rw [handFault_eq_faultsTaken]
  exact { h with faults := faultsTaken_range h.faults (faultsOf_range hi) }

/-- The queues hold no more than they held. -/
theorem of_queues (h : RangeParts s) {ports : PerPort PortUnit} (hq : ∀ p, (ports.get p).queue ⊆ (s.ports.get p).queue) :
    RangeParts { s with ports := ports } := { h with held := fun p x hx => h.held p x (hq p hx) }

theorem entered (h : RangeParts s) : RangeParts (enteredFrom s) := by
  have hplan := planRange_governing_of h.plans
  have hrefused (p : Port) : ∀ x ∈ entryRefused s p, x.1 ∈ (s.ports.get p).queue := by
    intro x hx
    obtain ⟨y, hy, hmap⟩ := List.mem_filterMap.mp hx
    obtain ⟨z, -, rfl⟩ := Option.map_eq_some_iff.mp hmap
    exact hy
  refine
    { h with
      held := fun p x hx => ?_
      faults := faultsTaken_range h.faults fun p i hi => ?_ }
  · simp only [enteredFrom, perPort_get, List.mem_map, List.mem_filter] at hx
    obtain ⟨y, ⟨hy, -⟩, rfl⟩ := hx
    obtain ⟨hspan, hdata, -, hdeadline⟩ := h.held p y hy
    obtain ⟨-, hbeats, -⟩ := id hspan
    refine ⟨hspan, hdata, fun c hc => Option.some.inj hc ▸ planCost_le hplan hbeats, fun d hd => ?_⟩
    obtain ⟨-, -, -, -, -, -, hset, -⟩ := hplan
    simp only [entryRecord] at hd
    split_ifs at hd
    · exact Option.some.inj hd ▸ (hset p).1
    · exact hdeadline d hd
  · obtain ⟨x, hx, rfl⟩ := List.mem_map.mp hi
    exact h.faultNow (.inl (h.held p _ (hrefused p x hx)).1)

theorem swapped (h : RangeParts s) (n : PlanName) : RangeParts (swappedTo n s) :=
  { h with
    plans := fun m => by
      rw [swappedTo_get]
      split_ifs
      · exact h.plans n
      · exact h.plans m
      · exact h.plans m
    posted := fun e he => by
      simp only [swappedTo, List.mem_map] at he
      obtain ⟨o, ho, rfl⟩ := he
      split_ifs <;> exact h.posted o ho }

theorem stopped (h : RangeParts s) : RangeParts (stoppedFrom s) :=
  { h with
    held := fun p x hx => by
      rw [stoppedFrom_queue] at hx
      split_ifs at hx
      · exact h.held p x hx
      · cases hx }

end RangeParts

/-! ### The counts of a memory failure -/

/-- An entry counts once: it is owed by at most one port, and by none if its source is POSTED. -/
theorem counted_singleton_le (e : IssueEntry) :
    ([e].filterMap postedKey).length + (allPorts.map (fun p => (owedOf [e] p).length)).sum ≤ 1 := by
  cases howed : owedTo e with
  | none =>
    have hnone (p : Port) : owedOf [e] p = [] := by simp [owedOf, owedTag, howed]
    simpa [hnone, allPorts] using List.length_filterMap_le postedKey [e]
  | some x =>
    obtain ⟨q, t⟩ := x
    have hkey : postedKey e = none := by
      cases hs : e.source with
      | port q t => exact postedKey_of_port hs
      | posted => simp [owedTo, hs] at howed
    have hone := owedOf_singleton howed
    cases q <;> simp [hone, hkey, allPorts]

/-- The entries that a failure loses and those it answers are no more than the issue list holds. -/
theorem counted_le_length (l : List IssueEntry) :
    (l.filterMap postedKey).length + (allPorts.map (fun p => (owedOf l p).length)).sum ≤ l.length := by
  induction l with
  | nil => rfl
  | cons e l ih =>
    have hone := counted_singleton_le e
    have hcons (p : Port) : owedOf (e :: l) p = owedOf [e] p ++ owedOf l p := owedOf_append [e] l p
    have hkeys : (e :: l).filterMap postedKey = [e].filterMap postedKey ++ l.filterMap postedKey := List.filterMap_append (l := [e])
    simp only [allPorts, List.map_cons, List.map_nil, List.sum_cons, List.sum_nil, hcons, hkeys, List.length_append,
      List.length_cons] at hone ih ⊢
    omega

theorem inFlightEntries_length (s : State) : (inFlightEntries s).length = (s.posted.filterMap inFlightKey).length := by
  unfold inFlightEntries
  induction s.posted with
  | nil => rfl
  | cons e l ih => cases he : e.state <;> simp [inFlightKey, he, ih]

/-- A failure loses and answers no more than the issue list holds (R118, R143, R144). -/
theorem failureCounts_le {s : State} (h : BufferParts s) : (inFlightEntries s).length + owedCount s ≤ 16 := by
  have hcounted := counted_le_length s.mem.issueList
  have howed : owedCount s = (allPorts.map (fun p => (owedOf s.mem.issueList p).length)).sum := by
    simp only [owedCount, owedIssues_eq]
  rw [inFlightEntries_length, h.inFlight.length_eq, howed]
  exact hcounted.trans h.listSize

theorem failureFaults_range {s : State} (h : RangeParts s) (p : Port) : ∀ i ∈ failureFaults s p, InfoRange i := by
  intro i hi
  rcases List.mem_append.mp hi with hi | hi
  · obtain ⟨e, he, rfl⟩ := List.mem_map.mp hi
    exact h.faultNow (.inl (h.posted e (List.mem_of_mem_filter (List.mem_of_mem_filter he))).1)
  · obtain ⟨x, hx, rfl⟩ := List.mem_map.mp hi
    obtain ⟨e, he, hmap⟩ := List.mem_filterMap.mp hx
    have hxe : x.2 = e := by
      cases hs : e.source with
      | posted => simp [hs] at hmap
      | port q t =>
        simp only [hs] at hmap
        split_ifs at hmap
        exact (congrArg Prod.snd (Option.some.inj hmap)).symm
    exact h.faultNow (.inl (hxe ▸ (h.issues e he).1))

theorem RangeParts.failed {s : State} (h : RangeParts s) (hb : BufferParts s) (why : FailureKind) : RangeParts (failedFrom why s) :=
  { h with
    held := fun p x hx => by simp [failedFrom] at hx
    posted := fun e he => h.posted e (List.mem_of_mem_filter he)
    issues := fun e he => by cases he
    report := failureCounts_le hb
    faults := faultsTaken_range h.faults (failureFaults_range h) }

/-! ### The position at an edge -/

theorem sum_windowsBelow_mono (p : Plan) {m n : Nat} (h : m ≤ n) :
    ((windowsBelow p m).map (·.length)).sum ≤ ((windowsBelow p n).map (·.length)).sum := by
  induction n, h using Nat.le_induction with
  | base => exact le_rfl
  | succ n _ ih =>
    rw [windowsBelow_succ]
    simp only [List.map_append, List.sum_append]
    omega

/-- T is below L wherever the walk stands (R155). -/
theorem capturePosition_range {s : State} (hs : Grounded s) (h : RangeParts s) (hw : walking s = true) :
    CaptureRange (capturePosition s) := by
  have hplan := planRange_governing_of h.plans
  obtain ⟨hwindow, hoffset⟩ := hs.position hw
  have hticks := frameTicks_eq hplan hwindow
  have hlength := frameLength_governing (planLaw_iff.mpr hs.planned.plan) hw
  have hbelow := sum_windowsBelow_mono (governing s) (Nat.succ_le_of_lt hwindow)
  rw [Nat.succ_eq_add_one, windowsBelow_succ] at hbelow
  simp only [List.map_append, List.sum_append, List.map_singleton, List.sum_singleton] at hbelow
  have hoffset : s.sched.offset < (windowAt (governing s) s.sched.window).length := hoffset
  obtain ⟨-, -, -, -, -, -, -, ⟨-, hframe⟩, -⟩ := hplan
  refine ⟨h.window, h.offset, ?_, hframe⟩
  simp only [capturePosition]
  omega

/-! ### Every act -/

theorem completeEntry_rangeParts {s : State} {e : IssueEntry} {m : MemResponse} (h : RangeParts s) (he : IssueRange e) :
    RangeParts (completeEntry e m s) := by
  have hfreed (f : PostedEntry → Bool) : RangeParts { s with posted := s.posted.eraseP f } :=
    { h with posted := fun o ho => h.posted o (List.mem_of_mem_eraseP ho) }
  have hanswered (p : Port) (t : Tag) (st : Status) (data : Option (List BeatData)) :
      RangeParts (answer p t st data s) := by
    have hqueues := h.of_queues (subset_of_set (p := p)
      (u := { s.ports.get p with tags := (s.ports.get p).tags.filter (· != t) }) fun _ => id)
    exact { hqueues with }
  have hc := completeEntry_completed e m s
  generalize completeEntry e m s = t at hc ⊢
  cases hc with
  | orphan => exact h
  | okay => exact hanswered _ _ _ _
  | fault => exact (hanswered _ _ _ _).handFault (h.faultNow (.inl he.1))
  | unmatched => exact h
  | freed => exact hfreed _
  | lost _ hfind =>
    have ho := h.posted _ (List.mem_of_find?_eq_some hfind)
    exact RangeParts.handFault (s := raise .postedLost { s with posted := s.posted.eraseP (inFlightAs e.issueTag) })
      { hfreed _ with } (h.faultNow (.inl ho.1))

theorem resetStep_rangeParts {s : State} (h : RangeParts s) : RangeParts (resetStep s) := by
  have hports : (resetStep s).ports = s.ports := setDevice_ports _ s
  have hposted : (resetStep s).posted = s.posted := setDevice_posted _ s
  exact
    { plans := planRange_plansAfterReset h.plans
      window := Nat.zero_le _
      offset := Nat.zero_le _
      held := by rw [hports]; exact h.held
      posted := by rw [hposted]; exact h.posted
      issues := h.issues
      report := Nat.zero_le _
      limit := Nat.zero_le _
      capture := fun c hc => by cases hc
      faults := fun p => by cases p <;> exact recordRange_empty
      device := deviceRange_initial }

theorem Act.rangeParts {s t : State} (ha : Act s t) (hs : Grounded s) (h : RangeParts s) : RangeParts t := by
  cases ha with
  | same hsame =>
    exact
      { plans := hsame.plans ▸ h.plans
        window := by rw [hsame.sched]; exact h.window
        offset := by rw [hsame.sched]; exact h.offset
        held := hsame.ports ▸ h.held
        posted := hsame.posted ▸ h.posted
        issues := congrArg MemoryPort.issueList hsame.mem ▸ h.issues
        report := congrArg MemoryPort.report hsame.mem ▸ h.report
        limit := (congrArg SyncUnit.limit hsame.sync).trans_le h.limit
        capture := congrArg SyncUnit.capture hsame.sync ▸ h.capture
        faults := hsame.faults ▸ h.faults
        device := hsame.device ▸ h.device }
  | tickDeadlines =>
    refine { h with held := fun p x hx => ?_ }
    rw [tickDeadlines_queue] at hx
    obtain ⟨y, hy, rfl⟩ := List.mem_map.mp hx
    obtain ⟨hspan, hdata, hcost, hdeadline⟩ := h.held p y hy
    refine ⟨hspan, hdata, hcost, fun d hd => ?_⟩
    obtain ⟨d', hd', rfl⟩ := Option.map_eq_some_iff.mp hd
    have := hdeadline d' hd'
    omega
  | tickMemory =>
    refine { h with issues := fun e he => ?_ }
    obtain ⟨o, ho, rfl⟩ := List.mem_map.mp he
    exact ⟨(h.issues o ho).1, min_le_right _ _⟩
  | tickCheck => exact { h with }
  | tickReset =>
    unfold Machine.tickReset
    split
    · exact { h with }
    · exact h
  | oweWalk => exact { h with }
  | endPulses => exact { h with }
  | advance hw hdue =>
    obtain ⟨-, hoffset⟩ := hs.position.advance hw hdue hw
    have hlength := windowAt_range (planRange_governing_of h.plans) s.sched.window
    exact { h with offset := Nat.lt_succ_iff.mp (hoffset.trans_le hlength) }
  | nextWindow _ hmore =>
    obtain ⟨hcount, -⟩ := planRange_governing_of h.plans
    exact { h with window := Nat.lt_succ_iff.mp (hmore.trans_le hcount), offset := Nat.zero_le _ }
  | nextFrame => exact { h with window := Nat.zero_le _, offset := Nat.zero_le _ }
  | swap =>
    have hleft : RangeParts { s with sched := { s.sched with pendingSwap := none } } := { h with }
    exact (hleft.swapped _).entered
  | beginFrame => exact { h with }
  | rewind => exact { h with window := Nat.zero_le _, offset := Nat.zero_le _ }
  | stop => exact h.stopped
  | run => exact RangeParts.entered { h with window := Nat.zero_le _, offset := Nat.zero_le _ }
  | @late p x hfind =>
    rw [expireOne_eq hfind]
    have hmem := h.held p _ (List.mem_of_find?_eq_some hfind)
    have hqueues := h.of_queues (subset_of_set (p := p) (u := ⟨tagsWithout (s.ports.get p).tags [x.tag],
      (s.ports.get p).queue.eraseP expired, (s.ports.get p).linkReset⟩) fun _ => List.mem_of_mem_eraseP)
    exact { hqueues with faults := faultsTaken_range h.faults (faultsOf_range (h.faultNow (.inl hmem.1))) }
  | @complete n f d hcheck =>
    obtain ⟨rfl, rfl⟩ : f = finding (s.plans.get n) ∧ d = derivedOf (foldedWindows (s.plans.get n)) :=
      hs.planned.plan.progress _ hcheck
    refine { h with plans := fun m => ?_ }
    simp only [raise, mapPlan, PerPlan.get_set]
    split_ifs
    · exact checkedPlan_range (h.plans n)
    · exact h.plans m
  | fail why => exact h.failed hs.buffers why
  | @respond e rest m _ hlist =>
    have hleft : RangeParts (withIssues rest s) := { h with issues := fun x hx => h.issues x (hlist ▸ List.mem_cons_of_mem _ hx) }
    exact completeEntry_rangeParts hleft (h.issues _ (by simp [hlist]))
  | endPulse => exact { h with }
  | recovered => exact RangeParts.stopped (s := endRecovery .ready .succeeded s) { h with }
  | endWait => exact { h with }
  | resetStep => exact resetStep_rangeParts h
  | capture =>
    refine { h with capture := fun c hc => ?_ }
    simp only [captureOf] at hc
    split_ifs at hc with hw
    exact Option.some.inj hc ▸ capturePosition_range hs h hw
  | captureTaken => exact { h with }
  | emptyFault p =>
    refine { h with faults := fun q => ?_ }
    simp only [Machine.emptyFault, PerPort.get_set]
    split_ifs
    · exact recordRange_empty
    · exact h.faults q
  | setSync _ _ hlimit => exact { h with limit := hlimit }
  | setDevice hd =>
    rw [setDevice_eq, clearQueue_eq]
    split
    · have hqueues := h.of_queues (subset_of_set (p := .p0) (u := emptied (s.ports.get .p0)) (List.nil_subset _))
      exact { hqueues with device := hd }
    · exact { h with device := hd }
  | write _ _ hrange =>
    refine { h with plans := fun m => ?_ }
    simp only [PerPlan.get_set]
    split_ifs
    · exact hrange h.plans
    · exact h.plans m
  | @beginCheck n =>
    refine { h with plans := fun m => ?_ }
    simp only [PerPlan.get_set]
    split_ifs
    · exact planRange_afterReset (h.plans n)
    · exact h.plans m
  | activate => exact h.swapped _
  | pend => exact { h with }
  | withdraw => exact { h with }
  | arm => exact { h with }
  | halt => exact { h with }
  | recover => exact { h with }
  | beginReset =>
    unfold Machine.beginReset
    rw [clearQueue_eq]
    have hqueues := h.of_queues (subset_of_set (p := .p0) (u := emptied (s.ports.get .p0)) (List.nil_subset _))
    exact { hqueues with }

/-! ### Resets, arrivals and grants -/

theorem resetWith_rangeParts {plans : PerPlan Plan} {s : State}
    (hplans : plans = plansAfterReset s.plans ∨ plans = State.reset.plans) (h : RangeParts s) : RangeParts (resetWith plans s) where
  plans n := by
    rcases hplans with rfl | rfl
    · exact planRange_plansAfterReset h.plans n
    · cases n <;> exact planRange_powerOn
  window := Nat.zero_le _
  offset := Nat.zero_le _
  held p x hx := by cases p <;> cases hx
  posted e he := by cases he
  issues e he := by cases he
  report := Nat.zero_le _
  limit := Nat.zero_le _
  capture c hc := by cases hc
  faults p := by cases p <;> exact recordRange_empty
  device := deviceRange_initial

theorem beats_of_wellFormed {r : Request} (h : r.wellFormed = true) : 1 ≤ r.beats ∧ r.beats ≤ 16 ∧ DataRange r.kind r.beats r.data := by
  simp only [Request.wellFormed, Bool.and_eq_true, decide_eq_true_eq] at h
  obtain ⟨⟨hlow, hhigh⟩, hdata⟩ := h
  refine ⟨hlow, hhigh, ?_⟩
  cases hk : r.kind <;> simpa [DataRange, hk] using hdata

/-- A request that breaks no bus rule spans bytes of one page (R49, R56). -/
theorem spanRange_of_bus {s : State} {p : Port} {r : Request} (hr : r.wellFormed = true) (h : protocolFault s p r = none) :
    SpanRange r.addr r.beats := by
  obtain ⟨hlow, hhigh, -⟩ := beats_of_wellFormed hr
  unfold protocolFault at h
  split_ifs at h with haligned hpage
  rw [crossesPage_iff, not_lt] at hpage
  have haligned : r.addr.toNat % 8 = 0 := not_not.mp haligned
  exact ⟨hlow, hhigh, haligned, by omega⟩

theorem acceptRequest_rangeParts {s : State} {p : Port} {r : Request} (hr : r.wellFormed = true) (h : RangeParts s) :
    RangeParts (acceptRequest p r s) := by
  obtain ⟨hlow, hhigh, hdata⟩ := beats_of_wellFormed hr
  have hc := acceptRequest_accepted p r s
  generalize acceptRequest p r s = t at hc ⊢
  cases hc with
  | faulted => exact { h with }
  | rejected => exact RangeParts.handFault (s := give _ _ s) { h with } (h.faultNow (.inr ⟨hlow, hhigh⟩))
  | posted _ hbus _ hkind =>
    refine { h with posted := fun e he => ?_ }
    obtain he | he := List.mem_append.mp he
    · exact h.posted e he
    · rw [List.mem_singleton.mp he]
      exact ⟨spanRange_of_bus hr hbus, hkind ▸ hdata⟩
  | held _ hbus =>
    refine { h with held := fun q x hx => ?_ }
    simp only [joinQueue, mapPort, PerPort.get_set] at hx
    split_ifs at hx with hq
    · subst hq
      obtain hx | hx := List.mem_append.mp hx
      · exact h.held q x hx
      · rw [List.mem_singleton.mp hx]
        have hplan := planRange_governing_of h.plans
        obtain ⟨-, -, -, -, -, -, hset, -⟩ := id hplan
        refine ⟨spanRange_of_bus hr hbus, hdata, fun c hcost => ?_, fun d hd => ?_⟩
        · simp only [heldRecord] at hcost
          split_ifs at hcost
          exact Option.some.inj hcost ▸ planCost_le hplan hhigh
        · simp only [heldRecord, deadlineOf] at hd
          split_ifs at hd
          exact Option.some.inj hd ▸ (hset q).1
    · exact h.held q x hx

theorem decideGrant_rangeParts {s : State} {memReady : Bool} (h : RangeParts s) : RangeParts (decideGrant memReady s) := by
  have hissued {x : IssueEntry} (hx : IssueRange x) : ∀ e ∈ s.mem.issueList ++ [x], IssueRange e := fun e he => by
    obtain he | he := List.mem_append.mp he
    · exact h.issues e he
    · exact List.mem_singleton.mp he ▸ hx
  have hc := decideGrant_granted memReady s
  generalize decideGrant memReady s = t at hc ⊢
  cases hc with
  | none => exact h
  | @head p x rest tag _ hqueue =>
    have hqueues := h.of_queues (subset_of_set (p := p) (u := { s.ports.get p with queue := rest }) (by simp [hqueue]))
    exact { hqueues with issues := hissued ⟨(h.held p x (by simp [hqueue])).1, Nat.zero_le _⟩ }
  | @write older younger e tag _ hposted =>
    have he : EntryRange e := h.posted e (by simp [hposted])
    refine { h with posted := fun o ho => ?_, issues := hissued ⟨he.1, Nat.zero_le _⟩ }
    simp only [withWriteIssued, List.mem_append, List.mem_cons] at ho
    rcases ho with ho | rfl | ho
    · exact h.posted o (by simp [hposted, ho])
    · exact he
    · exact h.posted o (by simp [hposted, ho])

theorem rangeParts_kept : KeptUnder Grounded RangeParts where
  still hs h :=
    { plans := hs.plans ▸ h.plans
      window := by rw [hs.sched]; exact h.window
      offset := by rw [hs.sched]; exact h.offset
      held := fun p => hs.queue p ▸ h.held p
      posted := hs.posted ▸ h.posted
      issues := hs.issueList ▸ h.issues
      report := congrArg MemoryPort.report hs.mem ▸ h.report
      limit := (congrArg SyncUnit.limit hs.sync).trans_le h.limit
      capture := congrArg SyncUnit.capture hs.sync ▸ h.capture
      faults := hs.faults ▸ h.faults
      device := hs.device ▸ h.device }
  act ha hs h := ha.rangeParts hs h
  reset := resetWith_rangeParts
  linkReset {p s} h := by
    have hqueues := h.of_queues (subset_of_set (p := p) (u := { s.ports.get p with tags := [], queue := [] }) (List.nil_subset _))
    refine { hqueues with issues := fun e he => ?_ }
    obtain ⟨o, ho, rfl⟩ := List.mem_map.mp he
    split_ifs <;> exact h.issues o ho
  arrival _ hr _ h := acceptRequest_rangeParts hr h
  grant _ h := decideGrant_rangeParts h

/-- Settles O19: the ranges are kept on top of the laws that bound the position, the plans and the buffers. -/
theorem stepKeepsTheRanges : Obligations.StepKeepsTheRanges := by
  intro s t h ht
  have hgrounded := h.grounded
  obtain ⟨-, -, -, -, -, -, -, hrange, -⟩ := h
  exact rangeLaw_iff.mpr ((grounded_kept.and rangeParts_kept).step ht ⟨hgrounded, rangeLaw_iff.mp hrange⟩).2

end Sys2Proof.Machine
end

section
/-! SUPPORT. The transaction state over every step (R176): no act moves the transaction, an answer enters RESPONSE, and the
bytes and the edges of chip-select move it as R176 and R179 have it. -/

namespace Sys2Proof.Machine

-- One proof at a time, as in the sections before.
set_option Elab.async false

/-! ### The link law by its parts -/

/-- The parts of the link law, named. -/
structure LinkParts (s : State) : Prop where
  opened : s.link.phase ≠ .idle → s.link.selected = true ∧ s.inReset = false
  frame : s.link.frame ≠ [] → s.link.phase = .command
  response : s.link.response ≠ [] ↔ s.link.phase = .response
  size : s.link.frame.length ≤ 1 + operandLength (s.link.frame.headD 0x00)

theorem linkLaw_iff {s : State} : LinkLaw s ↔ LinkParts s :=
  ⟨fun ⟨h1, h2, h3, h4⟩ => ⟨h1, h2, h3, h4⟩, fun ⟨h1, h2, h3, h4⟩ => ⟨h1, h2, h3, h4⟩⟩

/-- The transaction, the level of chip-select and the reset of the part are left. -/
structure SameLink (s t : State) : Prop where
  phase : t.link.phase = s.link.phase := by rfl
  selected : t.link.selected = s.link.selected := by rfl
  frame : t.link.frame = s.link.frame := by rfl
  response : t.link.response = s.link.response := by rfl
  inReset : t.inReset = s.inReset := by rfl

theorem SameLink.trans {s t u : State} (h : SameLink s t) (h' : SameLink t u) : SameLink s u where
  phase := h'.phase.trans h.phase
  selected := h'.selected.trans h.selected
  frame := h'.frame.trans h.frame
  response := h'.response.trans h.response
  inReset := h'.inReset.trans h.inReset

theorem LinkParts.of_same {s t : State} (h : LinkParts s) (hs : SameLink s t) : LinkParts t where
  opened := by rw [hs.phase, hs.selected, hs.inReset]; exact h.opened
  frame := by rw [hs.frame, hs.phase]; exact h.frame
  response := by rw [hs.response, hs.phase]; exact h.response
  size := by rw [hs.frame]; exact h.size

theorem LinkParts.idle_of_inReset {s : State} (h : LinkParts s) (hr : s.inReset = true) : s.link.phase = .idle := by
  by_contra hp
  exact Bool.false_ne_true ((h.opened hp).2.symm.trans hr)

theorem LinkParts.idle_of_unselected {s : State} (h : LinkParts s) (hr : s.link.selected = false) : s.link.phase = .idle := by
  by_contra hp
  exact Bool.false_ne_true (hr.symm.trans (h.opened hp).1)

/-! ### Acts leave the transaction -/

theorem failedFrom_sameLink (why : FailureKind) (s : State) : SameLink s (failedFrom why s) := by
  cases hr : s.link.resetting
  · exact
      { phase := by simp [failedFrom, hr]
        selected := by simp [failedFrom, hr]
        frame := by simp [failedFrom, hr]
        response := by simp [failedFrom, hr] }
  · exact
      { phase := by simp [failedFrom, hr]
        selected := by simp [failedFrom, hr]
        frame := by simp [failedFrom, hr]
        response := by simp [failedFrom, hr] }

theorem completeEntry_sameLink (e : IssueEntry) (m : MemResponse) (s : State) : SameLink s (completeEntry e m s) := by
  have hc := completeEntry_completed e m s
  generalize completeEntry e m s = t at hc ⊢
  cases hc <;> exact {}

theorem Act.sameLink {s t : State} (ha : Act s t) : SameLink s t := by
  cases ha with
  | same h => exact ⟨h.phase, h.selected, h.frame, h.response, h.inReset⟩
  | tickReset =>
    unfold Machine.tickReset
    split <;> exact {}
  | late p hfind => exact expireOne_eq hfind ▸ {}
  | fail why => exact failedFrom_sameLink why s
  | respond m => exact SameLink.trans {} (completeEntry_sameLink _ m _)
  | resetStep =>
    unfold Machine.resetStep
    rw [setDevice_eq]
    exact {}
  | setDevice =>
    rw [setDevice_eq, clearQueue_eq]
    split <;> exact {}
  | beginReset =>
    unfold Machine.beginReset
    rw [clearQueue_eq]
    exact {}
  | _ => exact {}

theorem Acts.sameLink {s t : State} (h : Acts s t) : SameLink s t := by
  induction h with
  | refl => exact {}
  | tail _ ha ih => exact ih.trans ha.sameLink

/-! ### Answers -/

/-- The link answers: chip-select is low, the part is out of reset, and response bytes are left. -/
structure Answering (s : State) : Prop where
  phase : s.link.phase = .response
  selected : s.link.selected = true
  frame : s.link.frame = []
  response : s.link.response ≠ []
  inReset : s.inReset = false

theorem Answering.linkParts {s : State} (h : Answering s) : LinkParts s where
  opened _ := ⟨h.selected, h.inReset⟩
  frame hf := absurd h.frame hf
  response := iff_of_true h.response h.phase
  size := by simp [h.frame]

theorem openResponse_answering {bytes : List Byte} {s : State} (hb : bytes ≠ []) (hs : s.link.selected = true)
    (hr : s.inReset = false) : Answering (openResponse bytes s) := ⟨rfl, hs, rfl, hb, hr⟩

theorem responseBytes_ne_nil (r : Result) (data : List Byte) : responseBytes r data ≠ [] := by simp [responseBytes]

theorem answerCommand_answering {code : Byte} {r : Reply} {s : State} (hs : s.link.selected = true) (hr : s.inReset = false) :
    Answering (answerCommand code r s) := by
  unfold answerCommand
  split <;> exact openResponse_answering (responseBytes_ne_nil _ _) hs hr

theorem answerBadCrc_answering {code : Byte} {s : State} (hs : s.link.selected = true) (hr : s.inReset = false) :
    Answering (answerBadCrc code s) := openResponse_answering (responseBytes_ne_nil _ _) hs hr

theorem answerUnknown_answering {code : Byte} {s : State} (hs : s.link.selected = true) (hr : s.inReset = false) :
    Answering (answerUnknown code s) := openResponse_answering (responseBytes_ne_nil _ _) hs hr

theorem takeCommand_answering {c : Instr} {rule : State → State × Reply} {code : Byte} {s : State}
    (hc : commandRule c = some rule) (hcode : code = statusCode → c = .status) (hs : s.link.selected = true)
    (hr : s.inReset = false) : Answering (takeCommand code rule s) := by
  unfold takeCommand
  split
  · exact answerCommand_answering hs hr
  · rename_i hopen
    have hacts : Acts s (rule s).1 := commandRule_acts hc fun hset => hcode (by simpa [hset] using hopen)
    exact answerCommand_answering (hacts.sameLink.selected.trans hs) (hacts.sameLink.inReset.trans hr)

theorem takeFrame_answering {frame : List Byte} {s : State} (hs : s.link.selected = true) (hr : s.inReset = false) :
    Answering (takeFrame frame s) := by
  simp only [takeFrame]
  split
  · rename_i rule hrule
    obtain ⟨c, hframe, hc⟩ := Option.bind_eq_some_iff.mp hrule
    refine takeCommand_answering hc (fun hcode => ?_) hs hr
    cases frame with
    | nil => cases hframe
    | cons code operands => exact decodeFrame_status (operands := operands) (hcode ▸ hframe)
  · exact answerUnknown_answering hs hr

/-! ### Bytes -/

/-- A byte that does not complete a frame joins it, within a code and its operands (R176). -/
theorem frame_size {frame : List Byte} (h : frame.length ≤ 1 + operandLength (frame.headD 0x00))
    (hc : frameComplete frame = false) (b : Byte) :
    (frame ++ [b]).length ≤ 1 + operandLength ((frame ++ [b]).headD 0x00) := by
  cases frame with
  | nil => simp
  | cons code operands =>
    have hne : operands.length ≠ operandLength code := by simpa [frameComplete] using hc
    simp only [List.length_cons, List.headD_cons, List.cons_append, List.length_append, List.length_nil] at h ⊢
    omega

theorem responseByte_linkParts {s : State} (h : LinkParts s) (hp : s.link.phase = .response) : LinkParts (responseByte s) := by
  have hopen := h.opened (by simp [hp])
  have hframe : s.link.frame = [] := by
    by_contra hf
    have := h.frame hf
    simp [hp] at this
  unfold responseByte
  split
  · rename_i hnil
    exact absurd hnil (h.response.mpr hp)
  · exact ⟨fun _ => hopen, fun hf => absurd hframe hf, by simp [setDataOut], by simp [setDataOut, hframe]⟩
  · rename_i b rest hne _
    have hrest : rest ≠ [] := hne
    refine ⟨fun _ => hopen, fun hf => absurd hframe hf, iff_of_true hrest hp, by simp [setDataOut, hframe]⟩

theorem takeByte_linkParts {b : Byte} {s : State} (h : LinkParts s) : LinkParts (takeByte b s) := by
  have hoff : LinkParts (setDataOut 0xFF s) := h.of_same {}
  unfold takeByte
  split
  · exact h
  · rename_i hp
    obtain ⟨hs, hr⟩ := h.opened (by simp [hp])
    unfold commandByte takeCrcByte
    split_ifs with hcomplete
    · exact (takeFrame_answering (s := setDataOut 0xFF s) hs hr).linkParts
    · exact (answerBadCrc_answering (s := setDataOut 0xFF s) hs hr).linkParts
    · have hresponse : ¬ s.link.response ≠ [] := by simp [h.response, hp]
      exact ⟨fun _ => ⟨hs, hr⟩, fun _ => hp, iff_of_false hresponse (by simp [setDataOut, hp]),
        frame_size h.size (Bool.not_eq_true _ ▸ hcomplete) b⟩
  · rename_i hp; exact responseByte_linkParts h hp
  · exact hoff

/-! ### Every command and the reference clock -/

theorem onEvent_linkParts {f : State → State} {s t : State} (h : LinkParts s)
    (hf : s.inReset = false → LinkParts (f (quiet s))) (ht : onEvent f s = .next t) : LinkParts t := by
  cases hr : s.inReset with
  | false =>
    rw [onEvent_of_running hr] at ht
    cases ht
    exact hf hr
  | true =>
    rw [onEvent_of_inReset hr] at ht
    cases ht
    exact h.of_same {}

theorem acts_linkParts {f : State → State} {s t : State} (h : LinkParts s) (hf : ∀ v, Acts v (f v))
    (ht : onEvent f s = .next t) : LinkParts t :=
  onEvent_linkParts h (fun _ => h.of_same (SameLink.trans {} (hf _).sameLink)) ht

theorem frameStep_linkParts {frame : List Byte} {take : State → State} {s t : State} (h : LinkParts s)
    (hf : ∀ v : State, v.link.selected = true → v.inReset = false → Answering (take v)) (ht : frameStep frame take s = .next t) :
    LinkParts t := by
  refine onEvent_linkParts h (fun hr => ?_) ht
  split
  · exact (hf (receiveFrame frame (quiet s)) rfl hr).linkParts
  · exact h.of_same {}

theorem commandStep_linkParts {c : Instr} {rule : State → State × Reply} (hc : commandRule c = some rule) {s t : State}
    (h : LinkParts s) (ht : commandStep c rule s = .next t) : LinkParts t := by
  unfold commandStep at ht
  split at ht
  · rename_i code operands hframe
    exact frameStep_linkParts h (fun v => takeCommand_answering hc fun hcode => encodeFrame_status (hcode ▸ hframe)) ht
  · cases ht
    exact h.of_same {}

theorem acceptRequest_sameLink (p : Port) (r : Request) (s : State) : SameLink s (acceptRequest p r s) := by
  have hc := acceptRequest_accepted p r s
  generalize acceptRequest p r s = t at hc ⊢
  cases hc <;> exact {}

theorem decideGrant_sameLink (memReady : Bool) (s : State) : SameLink s (decideGrant memReady s) := by
  have hc := decideGrant_granted memReady s
  generalize decideGrant memReady s = t at hc ⊢
  cases hc <;> exact {}

/-- The link idle with nothing received and nothing to be shifted out. -/
theorem linkParts_of_idle {s : State} (hp : s.link.phase = .idle) (hf : s.link.frame = []) (hr : s.link.response = []) :
    LinkParts s := ⟨fun h => absurd hp h, fun h => absurd hf h, by simp [hr, hp], by simp [hf]⟩

theorem LinkParts.empty_of_idle {s : State} (h : LinkParts s) (hp : s.link.phase = .idle) :
    s.link.frame = [] ∧ s.link.response = [] := by
  constructor
  · by_contra hf
    have := h.frame hf
    simp [hp] at this
  · by_contra hr
    have := h.response.mp hr
    simp [hp] at this

theorem riseSelect_linkParts (edges : Fin 8) (s : State) : LinkParts (riseSelect edges s) := by
  unfold riseSelect
  split <;> exact linkParts_of_idle rfl rfl rfl

/-- Chip-select moves while no transaction is open. -/
theorem setSelected_linkParts {s : State} (low : Bool) (h : LinkParts s) (hp : s.link.phase = .idle) :
    LinkParts (setSelected low s) := by
  obtain ⟨hf, hr⟩ := h.empty_of_idle hp
  exact linkParts_of_idle hp hf hr

/-- The rows of the table that are no management command. -/
theorem exec_event_linkParts {c : Instr} (hc : commandRule c = none) {s t : State} (h : LinkParts s)
    (ht : exec c s = .next t) : LinkParts t := by
  have hquiet : LinkParts (quiet s) := h.of_same {}
  cases c <;> cases hc
  case por => cases ht; exact linkParts_of_idle rfl rfl rfl
  case rst => cases ht; exact linkParts_of_idle rfl rfl rfl
  case linkReset p =>
    simp only [exec, execLinkReset] at ht
    split at ht
    · cases ht; exact hquiet
    · exact onEvent_linkParts (h.of_same {}) (fun _ => h.of_same {}) ht
  case linkResetRelease p => cases ht; exact h.of_same {}
  case gateTick => exact acts_linkParts h gateTick_acts ht
  case windowExpiry => exact acts_linkParts h takeOwedWalk_acts ht
  case holdLimitExpiry p => exact acts_linkParts h (expireOne_acts p) ht
  case checkCompletion => exact acts_linkParts h completeCheck_acts ht
  case timeout => exact acts_linkParts h timeoutTest_acts ht
  case recoveryPulseEnd level =>
    have hlevel (v : State) : Acts v (setMemrdy level v) := .same {}
    exact acts_linkParts h (fun v => .ite (fun _ => (hlevel v).trans (endPulse_acts _)) (fun _ => .refl)) ht
  case memrdyAsserted => exact acts_linkParts (h.of_same {}) memrdyRises_acts ht
  case readyWaitExpiry => exact acts_linkParts h expireReadyWait_acts ht
  case resetStep => exact acts_linkParts h takeResetStep_acts ht
  case syncEdge e => exact acts_linkParts (h.of_same {}) (seenEdge_acts e) ht
  case requestArrival p r =>
    refine onEvent_linkParts h (fun _ => ?_) ht
    split
    · exact hquiet.of_same (acceptRequest_sameLink p r _)
    · exact hquiet
  case grant ready => exact onEvent_linkParts h (fun _ => hquiet.of_same (decideGrant_sameLink ready _)) ht
  case memoryResponse m => exact acts_linkParts h (takeResponse_acts m) ht
  case chipSelectFall =>
    simp only [exec, execChipSelectFall] at ht
    split at ht
    · cases ht; exact hquiet
    · rename_i hs
      have hidle := h.idle_of_unselected (Bool.not_eq_true _ ▸ hs)
      refine onEvent_linkParts (setSelected_linkParts true h hidle) (fun hr => ?_) ht
      exact ⟨fun _ => ⟨rfl, hr⟩, fun _ => rfl, by simp [beginTransaction], by simp [beginTransaction]⟩
  case chipSelectRise edges =>
    simp only [exec, execChipSelectRise] at ht
    split at ht
    · cases hr : s.inReset with
      | false =>
        rw [onEvent_of_running (s := setSelected false s) hr] at ht
        cases ht
        exact riseSelect_linkParts edges _
      | true =>
        rw [onEvent_of_inReset (s := setSelected false s) hr] at ht
        cases ht
        exact (setSelected_linkParts false h (h.idle_of_inReset hr)).of_same {}
    · cases ht; exact hquiet
  case badCrc frame crc =>
    simp only [exec, execBadCrc] at ht
    split at ht
    · exact frameStep_linkParts h (fun _ => answerBadCrc_answering) ht
    · cases ht; exact hquiet
  case unknown code =>
    simp only [exec, execUnknown] at ht
    split at ht
    · exact frameStep_linkParts h (fun _ => answerUnknown_answering) ht
    · cases ht; exact hquiet
  case linkByte b => exact onEvent_linkParts h (fun _ => takeByte_linkParts hquiet) ht
  case resetRelease =>
    simp only [exec, execResetRelease] at ht
    cases ht
    split
    · exact { h with opened := fun hp => ⟨(h.opened hp).1, rfl⟩ }
    · exact hquiet

theorem exec_linkParts (c : Instr) {s t : State} (h : LinkParts s) (ht : exec c s = .next t) : LinkParts t := by
  cases hc : commandRule c with
  | some rule => exact commandStep_linkParts hc h (exec_of_commandRule hc s ▸ ht)
  | none => exact exec_event_linkParts hc h ht

/-- Settles O21: acts leave the transaction, and the commands that move it move it as R176 has it. -/
theorem stepKeepsTheLinkLaw : Obligations.StepKeepsTheLinkLaw := by
  intro s t h ht
  rw [linkLaw_iff] at h ⊢
  unfold step at ht
  split at ht
  · exact acts_linkParts h (fun v => .ite (fun _ => takeDue_acts v) (fun _ => countCycle_acts v)) ht
  · exact exec_linkParts _ (h.of_same {}) ht

end Sys2Proof.Machine
end

section
/-! SUPPORT. What presents an access to the memory (R126, R128, R137): acts and every other event but a grant present none;
and what a grant issues fits its window. And the commands that leave the gate alone (R31, R130). -/

namespace Sys2Proof.Machine

-- One proof at a time, as in the sections before.
set_option Elab.async false

/-! ### Nothing but a grant issues -/

/-- No access is presented, and the issue list gets no longer. -/
structure IssuesNothing (s t : State) : Prop where
  issues : t.out.issues = s.out.issues := by rfl
  length : t.mem.issueList.length ≤ s.mem.issueList.length := by exact le_rfl

theorem IssuesNothing.trans {s t u : State} (h : IssuesNothing s t) (h' : IssuesNothing t u) : IssuesNothing s u :=
  ⟨h'.issues.trans h.issues, h'.length.trans h.length⟩

theorem completeEntry_issuesNothing (e : IssueEntry) (m : MemResponse) (s : State) : IssuesNothing s (completeEntry e m s) := by
  have hc := completeEntry_completed e m s
  generalize completeEntry e m s = t at hc ⊢
  cases hc <;> exact {}

theorem Act.issuesNothing {s t : State} (ha : Act s t) : IssuesNothing s t := by
  cases ha with
  | same h => exact ⟨by rw [h.out], by rw [← h.mem]⟩
  | tickMemory => exact { length := by simp [Machine.tickMemory, tickAges] }
  | tickReset =>
    unfold Machine.tickReset
    split <;> exact {}
  | late p hfind => exact expireOne_eq hfind ▸ {}
  | fail => exact { length := Nat.zero_le _ }
  | @respond e rest m _ hlist =>
    have hleft : IssuesNothing s (withIssues rest s) := { length := by simp [hlist, withIssues] }
    exact hleft.trans (completeEntry_issuesNothing e m _)
  | resetStep =>
    unfold Machine.resetStep
    rw [setDevice_eq]
    exact {}
  | setDevice =>
    rw [setDevice_eq, clearQueue_eq]
    split <;> exact {}
  | beginReset =>
    unfold Machine.beginReset
    rw [clearQueue_eq]
    exact {}
  | _ => exact {}

theorem Acts.issuesNothing {s t : State} (h : Acts s t) : IssuesNothing s t := by
  induction h with
  | refl => exact {}
  | tail _ ha ih => exact ih.trans ha.issuesNothing

theorem acceptRequest_issuesNothing (p : Port) (r : Request) (s : State) : IssuesNothing s (acceptRequest p r s) := by
  have hc := acceptRequest_accepted p r s
  generalize acceptRequest p r s = t at hc ⊢
  cases hc <;> exact {}

theorem Still.issueList_length {s t : State} (h : Still s t) : t.mem.issueList.length = s.mem.issueList.length :=
  congrArg List.length h.issueList

/-- A command, or the clock, issues nothing, or it is a grant. -/
theorem Taken.issuesNothing_or_grant {s t : State} {c : Option Instr} (h : Taken s c t) :
    (t.out.issues = [] ∧ t.mem.issueList.length ≤ s.mem.issueList.length)
      ∨ ∃ memReady u, c = some (.grant memReady) ∧ Still s u ∧ t = decideGrant memReady u := by
  cases h with
  | acts before hquiet hacts after hout =>
    refine .inl ⟨by rw [hout, hacts.issuesNothing.issues, hquiet]; rfl, ?_⟩
    rw [after.issueList_length, ← before.issueList_length]
    exact hacts.issuesNothing.length
  | powerOn => exact .inl ⟨rfl, Nat.zero_le _⟩
  | pinReset => exact .inl ⟨rfl, Nat.zero_le _⟩
  | linkReset before hquiet =>
    refine .inl ⟨congrArg Outputs.issues hquiet, ?_⟩
    rw [← before.issueList_length]
    exact (List.length_map _).le
  | @arrival p r u before hquiet =>
    have hnothing := acceptRequest_issuesNothing p r u
    exact .inl ⟨by rw [hnothing.issues, hquiet]; rfl, before.issueList_length ▸ hnothing.length⟩
  | grant before => exact .inr ⟨_, _, rfl, before, rfl⟩

/-- Settles O22: every command but a grant is acts, a reset, a link reset or an arrival. -/
theorem onlyAGrantIssues : Obligations.OnlyAGrantIssues := by
  intro c s t hc ht
  obtain hnothing | ⟨memReady, -, hgrant, -⟩ := (exec_taken c ht).issuesNothing_or_grant
  · exact hnothing
  · exact absurd (Option.some.inj hgrant) (hc memReady)

/-! ### What a grant issues fits its window -/

/-- A step that adds to the issue list is a grant. -/
theorem granted_of_step {s t : State} {e : IssueEntry} (ht : step s = .next t)
    (hlist : t.mem.issueList = s.mem.issueList ++ [e]) : ∃ u, Still s u ∧ Granted u t := by
  obtain ⟨c, v, hv, htaken⟩ := step_taken ht
  obtain ⟨-, hlength⟩ | ⟨memReady, u, -, hu, rfl⟩ := htaken.issuesNothing_or_grant
  · rw [hlist, hv.issueList_length, List.length_append, List.length_singleton] at hlength
    omega
  · exact ⟨u, hv.trans hu, decideGrant_granted memReady u⟩

/-- What a posted entry meets to retire is not changed by moves of the link and the pins. -/
theorem Idle.entryMayRetire {s u : State} (h : Idle s u) (e : PostedEntry) : EntryMayRetire u e ↔ EntryMayRetire s e := by
  have hgoverning : governing u = governing s := governing_of_plans h.plans
  have hwindow : currentWindow u = currentWindow s := by rw [currentWindow, currentWindow, hgoverning, h.sched]
  unfold EntryMayRetire
  rw [hwindow, hgoverning, activePlan_of_plans h.plans, h.sched]

/-- R112 and R113 of an entry that may retire while the gate walks. -/
theorem fits_of_entryMayRetire {s : State} {o : PostedEntry} (hw : walking s = true) (h : EntryMayRetire s o) :
    (openTo (currentWindow s) o.port = true ∨ (currentWindow s).drain = true)
        ∧ (governing s).overhead + o.beats * (governing s).beatCost ≤ (currentWindow s).length - s.sched.offset
      ∨ o.plan ≠ activePlan s ∨ o.plan = none := by
  have hgate : s.sched.gate = .running ∨ s.sched.gate = .halting := by simpa [walking] using hw
  by_cases hplan : o.plan ≠ none ∧ o.plan = activePlan s
  · have hfits : (openTo (currentWindow s) o.port = true ∨ (currentWindow s).drain = true)
        ∧ (governing s).overhead + o.beats * (governing s).beatCost ≤ (currentWindow s).length - s.sched.offset := by
      unfold EntryMayRetire at h
      rcases hgate with hg | hg <;> simpa only [hg, if_pos hplan] using h
    exact .inl hfits
  · rw [not_and_or, not_not] at hplan
    exact .inr hplan.symm

/-- R91 of a head that may issue while the gate walks. -/
theorem fits_of_headMayIssue {s : State} {p : Port} {h : Held} (hw : walking s = true) (hm : HeadMayIssue s p h) :
    openTo (currentWindow s) p = true
      ∧ (governing s).overhead + h.beats * (governing s).beatCost ≤ (currentWindow s).length - s.sched.offset := by
  have hgate : s.sched.gate = .running ∨ s.sched.gate = .halting := by simpa [walking] using hw
  obtain ⟨-, -, -, hfits⟩ := hm
  rcases hgate with hg | hg <;> simpa only [hg] using hfits

/-- Settles O24: an issue is a grant's, and the arbiter grants what is eligible. -/
theorem issuesFitTheirWindow : Obligations.IssuesFitTheirWindow := by
  intro s t e hlawful ht hlist hw
  obtain ⟨-, -, -, -, -, hheld, -, hrange, -⟩ := hlawful
  refine ⟨fun p tag hsource => ?_, fun hsource => ?_⟩
  · obtain ⟨h, rest, hqueue, -, heligible, haccess⟩ := (step_moves ht).headIssued hlist hsource
    obtain ⟨x, hx, hissue⟩ := (headEligible_iff hheld hrange p).mp heligible
    obtain rfl : h = x := by simpa [hqueue] using hx
    rw [haccess]
    exact fits_of_headMayIssue hw hissue
  · obtain ⟨u, hu, hgranted⟩ := granted_of_step ht hlist
    rw [← hu.issueList] at hlist
    cases hgranted with
    | none => simp at hlist
    | head =>
      obtain rfl : _ = e := List.singleton_inj.mp (List.append_cancel_left hlist)
      cases hsource
    | @write older younger o tag _ hposted hwaiting heligible =>
      obtain rfl : _ = e := List.singleton_inj.mp (List.append_cancel_left hlist)
      have hretire := (hu.entryMayRetire o).mp ((retireEligible_iff u o).mp heligible)
      exact ⟨older, o, younger, hu.posted ▸ hposted, hwaiting, rfl, rfl, rfl, fits_of_entryMayRetire hw hretire⟩

/-! ### Commands that leave the gate -/

/-- The gate, the traffic and the device settings are left, and nothing is presented. -/
structure LeavesTheGate (s t : State) : Prop where
  sched : t.sched = s.sched := by rfl
  mem : t.mem = s.mem := by rfl
  ports : t.ports = s.ports := by rfl
  posted : t.posted = s.posted := by rfl
  lastWinner : t.lastWinner = s.lastWinner := by rfl
  device : t.device = s.device := by rfl
  out : t.out = s.out := by rfl

theorem LeavesTheGate.trans {s t u : State} (h : LeavesTheGate s t) (h' : LeavesTheGate t u) : LeavesTheGate s u where
  sched := h'.sched.trans h.sched
  mem := h'.mem.trans h.mem
  ports := h'.ports.trans h.ports
  posted := h'.posted.trans h.posted
  lastWinner := h'.lastWinner.trans h.lastWinner
  device := h'.device.trans h.device
  out := h'.out.trans h.out

theorem planWrite_leavesTheGate (plan : Byte) (change : Option (Plan → Plan)) (s : State) :
    LeavesTheGate s (planWrite plan change s).1 := by
  unfold planWrite
  split
  · exact {}
  · split <;> exact {}

/-- The rules of R31 and R130, and those that only read. -/
theorem rule_leavesTheGate {c : Instr} {rule : State → State × Reply} (hc : commandRule c = some rule)
    (hleaves : leavesTheGate c = true) (s : State) : LeavesTheGate s (rule s).1 := by
  cases c <;> cases hc
  case status => exact {}
  case takeEvents m => unfold takeTakeEvents; split <;> exact {}
  case readFault =>
    unfold takeReadFault
    split
    · dsimp only
      split <;> exact {}
    · exact {}
  case readSync => unfold takeReadSync; split <;> exact {}
  case readRecoveryReport => exact {}
  case setAlerts => unfold takeSetAlerts; split <;> exact {}
  case setSync =>
    unfold takeSetSync
    split
    · split_ifs <;> exact {}
    · exact {}
  case writeWindow => exact planWrite_leavesTheGate _ _ s
  case setWindowCount => exact planWrite_leavesTheGate _ _ s
  case writeRegion => exact planWrite_leavesTheGate _ _ s
  case setRegionCount => exact planWrite_leavesTheGate _ _ s
  case writePortSettings => exact planWrite_leavesTheGate _ _ s
  case writeCosts => exact planWrite_leavesTheGate _ _ s
  case readPlanItem =>
    unfold takeReadPlanItem
    split
    · exact {}
    · split <;> exact {}
  case copyPlan =>
    unfold takeCopyPlan
    split
    · exact {}
    · dsimp only
      split_ifs <;> exact {}
  case checkPlan =>
    unfold takeCheckPlan
    split
    · exact {}
    · split_ifs <;> exact {}
  all_goals cases hleaves

theorem answerCommand_leavesTheGate (code : Byte) (r : Reply) (s : State) : LeavesTheGate s (answerCommand code r s) := by
  unfold answerCommand
  split <;> exact {}

theorem takeCommand_leavesTheGate {rule : State → State × Reply} (hrule : ∀ s, LeavesTheGate s (rule s).1) (code : Byte)
    (s : State) : LeavesTheGate s (takeCommand code rule s) := by
  unfold takeCommand
  split
  · exact answerCommand_leavesTheGate _ _ s
  · exact (hrule s).trans (answerCommand_leavesTheGate _ _ _)

theorem onEvent_leavesTheGate {f : State → State} {s t : State} (hf : ∀ v, LeavesTheGate v (f v)) (ht : onEvent f s = .next t) :
    LeavesTheGate (quiet s) t := by
  cases ht
  split
  · exact {}
  · exact hf _

theorem exec_leavesTheGate {c : Instr} {s t : State} (hleaves : leavesTheGate c = true) (ht : exec c s = .next t) :
    LeavesTheGate (quiet s) t := by
  cases hc : commandRule c with
  | some rule =>
    rw [exec_of_commandRule hc s] at ht
    unfold commandStep at ht
    split at ht
    · refine onEvent_leavesTheGate (fun v => ?_) ht
      split
      · exact LeavesTheGate.trans {} (takeCommand_leavesTheGate (rule_leavesTheGate hc hleaves) _ _)
      · exact {}
    · cases ht
      exact {}
  | none =>
    cases c <;> cases hc <;> cases hleaves
    refine onEvent_leavesTheGate (f := completeCheck) (fun v => ?_) ht
    unfold completeCheck
    split <;> exact {}

/-- Settles O28: the rules of these commands write the plans, the check, the events, the sync unit and the link alone. -/
theorem configurationLeavesTheGate : Obligations.ConfigurationLeavesTheGate := by
  intro c s t hleaves ht
  have h := exec_leavesTheGate hleaves ht
  exact ⟨h.sched, h.mem, h.ports, h.posted, h.lastWinner, h.device, h.out⟩

end Sys2Proof.Machine
end

section
/-! SUPPORT. R61 and R64: every act answers requests that were open, and their tags leave the outstanding set at the same
event; so no event answers a tag twice, and none leaves its tag outstanding. -/

namespace Sys2Proof.Machine

-- One proof at a time, as in the sections before.
set_option Elab.async false

/-! ### What an act answers -/

/-- On each port some responses, perhaps none, are given to requests that were open; their tags leave the set, and the
requests their queue or the issue list (R60, R61). -/
def Responds (s t : State) : Prop := ∀ p, ∃ given : List Response,
  t.out.responses.get p = s.out.responses.get p ++ given
    ∧ (t.ports.get p).tags = tagsWithout (s.ports.get p).tags (given.map (·.tag))
    ∧ (openTags s p).Perm (given.map (·.tag) ++ openTags t p)

namespace Responds

theorem kept {s t : State} (hout : t.out.responses = s.out.responses) (htags : ∀ p, (t.ports.get p).tags = (s.ports.get p).tags)
    (hopen : ∀ p, (openTags s p).Perm (openTags t p)) : Responds s t := fun p =>
  ⟨[], by rw [hout, List.append_nil], by rw [htags, List.map_nil, tagsWithout_nil], hopen p⟩

/-- An update that names no port, no issue and no response. -/
theorem same {s t : State} (hout : t.out.responses = s.out.responses := by rfl) (hports : t.ports = s.ports := by rfl)
    (hlist : t.mem.issueList = s.mem.issueList := by rfl) : Responds s t :=
  .kept hout (fun p => by rw [hports]) fun p => by rw [openTags, openTags, heldTags, heldTags, hports, issuedTags_of_list hlist]

theorem trans {s t u : State} (h : Responds s t) (h' : Responds t u) : Responds s u := by
  intro p
  obtain ⟨given, hout, htags, hopen⟩ := h p
  obtain ⟨given', hout', htags', hopen'⟩ := h' p
  refine ⟨given ++ given', by rw [hout', hout, List.append_assoc], ?_, ?_⟩
  · rw [htags', htags, tagsWithout_tagsWithout, List.map_append]
  · rw [List.map_append, List.append_assoc]
    exact hopen.trans (hopen'.append_left _)

/-- An event of one port: the responses it gives, and what is left of the port and of its issued requests. -/
theorem of_port {s t : State} {p : Port} {u : PortUnit} (given : List Response) (hports : t.ports = s.ports.set p u)
    (hout : t.out.responses = s.out.responses.set p (s.out.responses.get p ++ given))
    (htags : u.tags = tagsWithout (s.ports.get p).tags (given.map (·.tag)))
    (hopen : (openTags s p).Perm (given.map (·.tag) ++ (u.queue.map (·.tag) ++ issuedTags t p)))
    (hother : ∀ q ≠ p, issuedTags t q = issuedTags s q) : Responds s t := by
  intro q
  by_cases hq : q = p
  · subst hq
    have hunit : t.ports.get q = u := by rw [hports, PerPort.get_set_same]
    rw [← hunit] at htags hopen
    exact ⟨given, by rw [hout, PerPort.get_set_same], htags, hopen⟩
  · have hunit : t.ports.get q = s.ports.get q := by rw [hports, PerPort.get_set_other _ _ hq]
    refine ⟨[], by rw [hout, PerPort.get_set_other _ _ hq, List.append_nil], by rw [hunit, List.map_nil, tagsWithout_nil], ?_⟩
    rw [openTags, openTags, heldTags, heldTags, hunit, hother q hq]
    exact .refl _

end Responds

theorem queueAnswers_tags (st : Status) (u : PortUnit) : (queueAnswers st u).map (·.tag) = u.queue.map (·.tag) := by
  simp [queueAnswers, refusalTo]

theorem clearQueue_responds (st : Status) (p : Port) (s : State) : Responds s (clearQueue st p s) := by
  rw [clearQueue_eq]
  refine .of_port (queueAnswers st (s.ports.get p)) rfl rfl ?_ ?_ fun _ _ => rfl
  · rw [queueAnswers_tags]
    rfl
  · rw [queueAnswers_tags]
    exact .refl _

theorem stoppedFrom_responds (s : State) : Responds s (stoppedFrom s) := by
  intro p
  by_cases hp : p = .p0 ∧ s.device.bootPass = true
  · have hunit : (stoppedFrom s).ports.get p = s.ports.get p := by
      simp only [stoppedFrom, perPort_get, if_pos hp]
      rw [hp.1]
      rfl
    refine ⟨[], by simp [stoppedFrom, if_pos hp], by rw [hunit, List.map_nil, tagsWithout_nil], ?_⟩
    rw [openTags, openTags, heldTags, heldTags, hunit]
    exact .refl _
  · have hunit : (stoppedFrom s).ports.get p = emptied (s.ports.get p) := by simp only [stoppedFrom, perPort_get, if_neg hp]
    refine ⟨queueAnswers .closed (s.ports.get p), by simp [stoppedFrom, if_neg hp], ?_, ?_⟩
    · rw [hunit, queueAnswers_tags]
      rfl
    · rw [queueAnswers_tags, openTags, openTags, heldTags, heldTags, hunit]
      exact .refl _

theorem enteredFrom_responds (s : State) : Responds s (enteredFrom s) := by
  intro p
  have hkept : heldTags (enteredFrom s) p =
      ((s.ports.get p).queue.filter fun h => (entryRefusal s p h).isNone).map (·.tag) := by
    simp [heldTags, enteredFrom, entryRecord, Function.comp_def]
  refine ⟨(entryRefused s p).map (fun x => refusalTo x.2.1 x.1.tag), by simp [enteredFrom], ?_, ?_⟩
  · simp [enteredFrom, refusalTo, Function.comp_def]
  · rw [openTags, openTags, hkept, ← List.append_assoc, List.map_map]
    exact (refused_append_kept_perm (entryRefusal s p) _).append_right _

theorem owedIssues_tags (s : State) (p : Port) : (owedIssues s p).map (·.1) = issuedTags s p := by
  rw [owedIssues_eq, issuedTags_eq, owedOf, List.map_filterMap]
  congr 1
  funext e
  cases owedTag p e <;> rfl

theorem failedFrom_responds (why : FailureKind) (s : State) : Responds s (failedFrom why s) := by
  intro p
  have hgiven : ((owedIssues s p).map (fun x => refusalTo .memFault x.1) ++ queueAnswers .memFault (s.ports.get p)).map (·.tag)
      = issuedTags s p ++ heldTags s p := by
    rw [List.map_append, queueAnswers_tags, List.map_map, ← owedIssues_tags]
    rfl
  refine ⟨(owedIssues s p).map (fun x => refusalTo .memFault x.1) ++ queueAnswers .memFault (s.ports.get p),
    by simp [failedFrom], ?_, ?_⟩
  · rw [hgiven, ← owedIssues_tags]
    simp [failedFrom]
  · rw [hgiven]
    have hnone : openTags (failedFrom why s) p = [] := by simp [openTags, heldTags, issuedTags, failedFrom]
    rw [hnone, List.append_nil]
    exact List.perm_append_comm

theorem late_responds {s : State} {p : Port} {h : Held} (hfind : (s.ports.get p).queue.find? expired = some h) :
    Responds s (expireOne p s) := by
  rw [expireOne_eq hfind]
  exact .of_port [refusalTo .late h.tag] rfl rfl rfl (((perm_cons_eraseP hfind).map (·.tag)).append_right _) fun _ _ => rfl

/-- The oldest entry of the issue list leaves it, and the port it is owed to is answered (R60, R132). -/
theorem Responds.of_oldest {s t : State} {e : IssueEntry} {rest : List IssueEntry} {p : Port} {r : Response}
    (hlist : s.mem.issueList = e :: rest) (howed : owedTo e = some (p, r.tag)) (hrest : t.mem.issueList = rest)
    (hports : t.ports = s.ports.set p { s.ports.get p with tags := (s.ports.get p).tags.filter (· != r.tag) })
    (hout : t.out.responses = s.out.responses.set p (s.out.responses.get p ++ [r])) : Responds s t := by
  refine .of_port [r] hports hout (tagsWithout_singleton _ _).symm ?_ fun q hq => ?_
  · have hissued : issuedTags s p = r.tag :: issuedTags t p := by simp [issuedTags_eq, hlist, hrest, owedTag, howed]
    rw [openTags, hissued]
    exact List.perm_middle
  · simp [issuedTags_eq, hlist, hrest, owedTag, howed, Ne.symm hq]

/-- The oldest entry leaves the issue list with nothing owed: an orphan, or a posted write (R133, R134). -/
theorem Responds.of_unowed {s t : State} {e : IssueEntry} {rest : List IssueEntry} (hlist : s.mem.issueList = e :: rest)
    (howed : owedTo e = none) (hrest : t.mem.issueList = rest) (hports : t.ports = s.ports := by rfl)
    (hout : t.out.responses = s.out.responses := by rfl) : Responds s t := by
  refine .kept hout (fun p => by rw [hports]) fun p => ?_
  rw [openTags, openTags, heldTags, heldTags, hports, issuedTags_eq, issuedTags_eq, hlist, hrest,
    List.filterMap_cons_none (by simp [owedTag, howed])]

theorem respond_responds {s : State} {e : IssueEntry} {rest : List IssueEntry} (hlist : s.mem.issueList = e :: rest)
    (m : MemResponse) : Responds s (completeEntry e m (withIssues rest s)) := by
  have hc := completeEntry_completed e m (withIssues rest s)
  generalize completeEntry e m (withIssues rest s) = t at hc ⊢
  cases hc with
  | orphan hsource horphan => exact .of_unowed hlist (by simp [owedTo, hsource, horphan]) rfl
  | @okay p tag hsource horphan =>
    exact .of_oldest (r := ⟨tag, .okay, false, completionData e m⟩) hlist (by simp [owedTo, hsource, horphan]) rfl rfl rfl
  | @fault p tag hsource horphan =>
    exact .of_oldest (r := ⟨tag, .memFault, false, none⟩) hlist (by simp [owedTo, hsource, horphan]) rfl rfl rfl
  | unmatched hsource => exact .of_unowed hlist (by simp [owedTo, hsource]) rfl
  | freed hsource => exact .of_unowed hlist (by simp [owedTo, hsource]) rfl
  | lost hsource => exact .of_unowed hlist (by simp [owedTo, hsource]) rfl

theorem tickDeadlines_responds (s : State) : Responds s (tickDeadlines s) := by
  have hport (p : Port) : (tickDeadlines s).ports.get p = tickDeadlines.tickUnit (s.ports.get p) := by cases p <;> rfl
  refine .kept rfl (fun p => by rw [hport]; rfl) fun p => ?_
  have hheld : heldTags (tickDeadlines s) p = heldTags s p := by
    simp [heldTags, tickDeadlines_queue, tickDeadline, Function.comp_def]
  rw [openTags, openTags, hheld, issuedTags_of_list (by rw [tickDeadlines_mem])]

theorem tickMemory_responds (s : State) : Responds s (tickMemory s) := by
  refine .kept rfl (fun _ => rfl) fun p => ?_
  have hissued : issuedTags (tickMemory s) p = issuedTags s p := by
    simp only [issuedTags_eq, tickMemory, tickAges, List.filterMap_map]
    rfl
  rw [openTags, openTags, hissued]
  rfl

theorem Act.responds {s t : State} (ha : Act s t) : Responds s t := by
  cases ha with
  | same h => exact .same (by rw [h.out]) h.ports (by rw [← h.mem])
  | tickDeadlines => exact tickDeadlines_responds s
  | tickMemory => exact tickMemory_responds s
  | tickReset =>
    unfold Machine.tickReset
    split <;> exact .same
  | swap => exact .trans .same (enteredFrom_responds _)
  | stop => exact stoppedFrom_responds s
  | run => exact .trans .same (enteredFrom_responds _)
  | late p hfind => exact late_responds hfind
  | fail why => exact failedFrom_responds why s
  | respond m _ hlist => exact respond_responds hlist m
  | recovered => exact .trans .same (stoppedFrom_responds _)
  | resetStep =>
    unfold Machine.resetStep
    rw [setDevice_eq]
    exact .same
  | setDevice =>
    split
    · rw [setDevice_cleared, setDevice_eq]
      exact (clearQueue_responds .closed .p0 s).trans .same
    · rw [setDevice_eq]
      exact .same
  | beginReset => exact .trans .same (clearQueue_responds .closed .p0 _)
  | _ => exact .same

theorem Acts.responds {s t : State} (h : Acts s t) : Responds s t := by
  induction h with
  | refl => exact .same
  | tail _ ha ih => exact ih.trans ha.responds

/-! ### What an event presents on a port -/

/-- What R61 and R64 ask of an event that presents its responses alone: it leaves no tag it answered outstanding, PROTOCOL
apart, answers none twice, and a tag that is gone was answered. -/
structure AnswersOnce (s t : State) (p : Port) : Prop where
  freed : ∀ r ∈ t.out.responses.get p, r.status ≠ .protocol → r.tag ∉ (t.ports.get p).tags
  once : ((t.out.responses.get p).map (·.tag)).Nodup
  gone : ∀ tag ∈ (s.ports.get p).tags, tag ∉ (t.ports.get p).tags → ∃ r ∈ t.out.responses.get p, r.tag = tag

theorem responses_of_quiet {s : State} (h : s.out = Outputs.none) (p : Port) : s.out.responses.get p = [] := by
  rw [h]
  cases p <;> rfl

/-- A chain of acts from a lawful state in which nothing is presented. -/
theorem Responds.answersOnce {s t : State} (h : Responds s t) (hlaw : TagLaw s) (hquiet : s.out = Outputs.none) (p : Port) :
    AnswersOnce s t p := by
  obtain ⟨given, hout, htags, hopen⟩ := h p
  obtain ⟨hnodup, hperm⟩ := hlaw p
  rw [responses_of_quiet hquiet, List.nil_append] at hout
  have hgiven : (given.map (·.tag) ++ openTags t p).Nodup := (hopen.symm.trans hperm).nodup_iff.mpr hnodup
  have hmem {tag : Tag} : tag ∈ (t.ports.get p).tags ↔ tag ∈ (s.ports.get p).tags ∧ tag ∉ given.map (·.tag) := by
    rw [htags]
    simp [tagsWithout]
  refine ⟨fun r hr _ hin => ?_, ?_, fun tag htag hgone => ?_⟩
  · exact (hmem.mp hin).2 (List.mem_map_of_mem (hout ▸ hr))
  · rw [hout]
    exact (List.nodup_append.mp hgiven).1
  · rw [hmem, not_and, not_not] at hgone
    rw [hout]
    exact List.mem_map.mp (hgone htag)

/-- An event that gives one response, at most, and takes no tag from the set. -/
theorem answersOnce_of_one {s t : State} {p : Port} {given : List Response} (hout : t.out.responses.get p = given)
    (hone : given.length ≤ 1) (hfree : ∀ r ∈ given, r.status ≠ .protocol → r.tag ∉ (t.ports.get p).tags)
    (htags : (s.ports.get p).tags ⊆ (t.ports.get p).tags) : AnswersOnce s t p := by
  refine ⟨hout ▸ hfree, ?_, fun tag htag hgone => absurd (htags htag) hgone⟩
  rw [hout]
  match given, hone with
  | [], _ => exact .nil
  | [r], _ => exact List.nodup_singleton _

theorem given_on_port {s : State} (hquiet : s.out = Outputs.none) (p q : Port) (r : Response) :
    (s.out.responses.set p (s.out.responses.get p ++ [r])).get q = if q = p then [r] else [] := by
  rw [PerPort.get_set]
  split_ifs <;> simp [responses_of_quiet hquiet]

theorem joinQueue_tags (s : State) (p q : Port) (r : Request) :
    (s.ports.get q).tags ⊆ ((joinQueue p r s).ports.get q).tags := by
  simp only [joinQueue, mapPort, PerPort.get_set]
  split_ifs with hq
  · exact hq ▸ List.subset_append_left _ _
  · exact fun _ => id

/-- In FAULTED no tag is outstanding (R99, R143). -/
theorem tags_of_faulted {s : State} (hlaw : TagLaw s) (hgate : GateParts s) (hg : s.sched.gate = .faulted) (p : Port) :
    (s.ports.get p).tags = [] := by
  obtain ⟨-, hperm⟩ := hlaw p
  have hqueue := hgate.queue_faulted hg p
  obtain ⟨hlist, -⟩ := hgate.empty hg
  rw [heldTags, hqueue, issuedTags_eq, hlist] at hperm
  exact List.perm_nil.mp hperm.symm

theorem acceptRequest_answersOnce {s : State} {p : Port} {r : Request} (hlaw : TagLaw s) (hgate : GateParts s)
    (hquiet : s.out = Outputs.none) (q : Port) : AnswersOnce s (acceptRequest p r s) q := by
  have hone (x : Response) (hx : x.tag = r.tag) (hfree : x.status ≠ .protocol → r.tag ∉ (s.ports.get p).tags) :
      (if q = p then [x] else []).length ≤ 1 ∧
        ∀ y ∈ (if q = p then [x] else []), y.status ≠ .protocol → y.tag ∉ (s.ports.get q).tags := by
    split_ifs with hq
    · refine ⟨le_rfl, fun y hy hstatus => ?_⟩
      obtain rfl := List.mem_singleton.mp hy
      rw [hx, hq]
      exact hfree hstatus
    · exact ⟨Nat.zero_le _, by simp⟩
  have hc := acceptRequest_accepted p r s
  generalize acceptRequest p r s = t at hc ⊢
  cases hc with
  | faulted hg =>
    obtain ⟨hlength, hfree⟩ := hone ⟨r.tag, .memFault, false, none⟩ rfl fun _ => by simp [tags_of_faulted hlaw hgate hg]
    exact answersOnce_of_one (given_on_port hquiet p q _) hlength hfree fun _ => id
  | rejected status reason _ hbus =>
    obtain ⟨hlength, hfree⟩ := hone ⟨r.tag, status, false, none⟩ rfl fun hstatus => tag_unused_of_protocolFault (hbus hstatus)
    exact answersOnce_of_one (given_on_port hquiet p q _) hlength hfree fun _ => id
  | posted _ hbus =>
    obtain ⟨hlength, hfree⟩ := hone ⟨r.tag, .okay, true, none⟩ rfl fun _ => tag_unused_of_protocolFault hbus
    exact answersOnce_of_one (given_on_port hquiet p q _) hlength hfree fun _ => id
  | held => exact answersOnce_of_one (responses_of_quiet hquiet q) (Nat.zero_le _) (by simp) (joinQueue_tags s p q r)

theorem decideGrant_answersOnce {memReady : Bool} {s : State} (hquiet : s.out = Outputs.none) (q : Port) :
    AnswersOnce s (decideGrant memReady s) q := by
  have hc := decideGrant_granted memReady s
  generalize decideGrant memReady s = t at hc ⊢
  cases hc with
  | none => exact answersOnce_of_one (responses_of_quiet hquiet q) (Nat.zero_le _) (by simp) fun _ => id
  | @head p h rest =>
    refine answersOnce_of_one (responses_of_quiet hquiet q) (Nat.zero_le _) (by simp) ?_
    simp only [withHeadIssued, PerPort.get_set]
    split_ifs with hq
    · exact hq ▸ fun _ => id
    · exact fun _ => id
  | write => exact answersOnce_of_one (responses_of_quiet hquiet q) (Nat.zero_le _) (by simp) fun _ => id

/-- A link reset answers nothing, and takes tags from no other port (R65). -/
theorem resetPort_answers {p q : Port} {s : State} (hquiet : s.out = Outputs.none) (hq : q ≠ p) :
    AnswersOnce s (resetPort p s) q := by
  have hunit : (resetPort p s).ports.get q = s.ports.get q := PerPort.get_set_other _ _ hq
  exact answersOnce_of_one (responses_of_quiet (s := resetPort p s) hquiet q) (Nat.zero_le _) (by simp) (by rw [hunit]; exact fun _ => id)

/-- Moves of the link and the pins around an event do not touch what it answers. -/
theorem AnswersOnce.of_still {s u v t : State} {p : Port} (h : AnswersOnce u v p) (before : Still s u) (after : Still v t)
    (hout : t.out = v.out) : AnswersOnce s t p := by
  obtain ⟨hfreed, honce, hgone⟩ := h
  rw [← after.tags p, ← hout] at hfreed
  rw [← after.tags p, ← hout, before.tags p] at hgone
  rw [← hout] at honce
  exact ⟨hfreed, honce, hgone⟩

theorem AnswersOnce.or_reset {c : Instr} {s t : State} {p : Port} (h : AnswersOnce s t p) :
    (∀ r ∈ t.out.responses.get p, r.status ≠ .protocol → r.tag ∉ (t.ports.get p).tags)
      ∧ ((t.out.responses.get p).map (·.tag)).Nodup
      ∧ (∀ tag ∈ (s.ports.get p).tags, tag ∉ (t.ports.get p).tags →
          (∃ r ∈ t.out.responses.get p, r.tag = tag) ∨ c = .linkReset p ∨ c = .por ∨ c = .rst) :=
  ⟨h.freed, h.once, fun tag htag hgone => .inl (h.gone tag htag hgone)⟩

/-- An event that presents nothing. -/
theorem silent_answers {t : State} {p : Port} (hquiet : t.out = Outputs.none) :
    (∀ r ∈ t.out.responses.get p, r.status ≠ .protocol → r.tag ∉ (t.ports.get p).tags)
      ∧ ((t.out.responses.get p).map (·.tag)).Nodup := by
  rw [responses_of_quiet hquiet]
  exact ⟨by simp, .nil⟩

/-- Settles O29: a command is a chain of acts that answer open requests, an arrival, a grant, or a reset. -/
theorem responsesFreeTheirTags : Obligations.ResponsesFreeTheirTags := by
  intro c s t p hlawful ht
  obtain ⟨htag, -, hgate, -⟩ := hlawful
  have hgate := gateLaw_iff.mp hgate
  have hlaw {u : State} (hu : Still s u) : TagLaw u ∧ GateParts u :=
    ⟨hu.toIdle.closes.tagLaw htag, hgate.of_frame hu.gateFrame⟩
  have htaken := exec_taken c ht
  cases htaken with
  | acts before hquiet hacts after hout =>
    exact AnswersOnce.or_reset ((hacts.responds.answersOnce (hlaw before).1 hquiet p).of_still before after hout)
  | powerOn =>
    obtain ⟨hfreed, honce⟩ := silent_answers (t := resetWith State.reset.plans s) (p := p) rfl
    exact ⟨hfreed, honce, fun _ _ _ => .inr (.inr (.inl rfl))⟩
  | pinReset =>
    obtain ⟨hfreed, honce⟩ := silent_answers (t := resetWith (plansAfterReset s.plans) s) (p := p) rfl
    exact ⟨hfreed, honce, fun _ _ _ => .inr (.inr (.inr rfl))⟩
  | @linkReset q u before hquiet =>
    by_cases hq : p = q
    · subst hq
      obtain ⟨hfreed, honce⟩ := silent_answers (t := resetPort p u) (p := p) hquiet
      exact ⟨hfreed, honce, fun _ _ _ => .inr (.inl rfl)⟩
    · exact AnswersOnce.or_reset ((resetPort_answers hquiet hq).of_still before (.refl _) rfl)
  | arrival before hquiet =>
    exact AnswersOnce.or_reset ((acceptRequest_answersOnce (hlaw before).1 (hlaw before).2 hquiet p).of_still before (.refl _) rfl)
  | grant before hquiet => exact AnswersOnce.or_reset ((decideGrant_answersOnce hquiet p).of_still before (.refl _) rfl)

end Sys2Proof.Machine
end

section
/-! SUPPORT. R122: the events and the records only grow while traffic runs, an IN_FLIGHT write that a failure drops is
reported on its port, and no other event but an OK of the memory takes a write from the buffer. -/

namespace Sys2Proof.Machine

-- One proof at a time, as in the sections before.
set_option Elab.async false

/-! ### Records that grow -/

/-- A fault record stays occupied, and its count, once within its bound, does not fall (R172). -/
structure RecordGrows (r r' : FaultRecord) : Prop where
  first : r.first ≠ none → r'.first ≠ none
  later : r.later ≤ 255 → r.later ≤ r'.later ∧ r'.later ≤ 255

theorem RecordGrows.refl (r : FaultRecord) : RecordGrows r r := ⟨id, fun h => ⟨le_rfl, h⟩⟩

theorem RecordGrows.trans {r r' r'' : FaultRecord} (h : RecordGrows r r') (h' : RecordGrows r' r'') : RecordGrows r r'' where
  first := h'.first ∘ h.first
  later hr := by
    obtain ⟨hle, hbound⟩ := h.later hr
    obtain ⟨hle', hbound'⟩ := h'.later hbound
    exact ⟨hle.trans hle', hbound'⟩

theorem bumped_grows (r : FaultRecord) (i : FaultInfo) : RecordGrows r (bumped r i) := by
  unfold bumped
  split_ifs with hfirst
  · exact ⟨fun h => absurd hfirst h, fun h => ⟨le_rfl, h⟩⟩
  · exact ⟨id, fun h => ⟨by simp only; omega, min_le_right _ _⟩⟩

theorem foldl_bumped_grows (l : List FaultInfo) (r : FaultRecord) : RecordGrows r (l.foldl bumped r) := by
  induction l generalizing r with
  | nil => exact .refl r
  | cons i l ih => exact (bumped_grows r i).trans (ih _)

/-- A record shows a fault taken since: it is occupied, and it was empty, or its count rose or stands at its bound. -/
structure Shows (r r' : FaultRecord) : Prop where
  first : r'.first ≠ none
  since : r.first = none ∨ r.later < r'.later ∨ r'.later = 255

theorem bumped_shows (r : FaultRecord) (i : FaultInfo) : Shows r (bumped r i) := by
  unfold bumped
  split_ifs with hfirst
  · exact ⟨by simp, .inl hfirst⟩
  · exact ⟨hfirst, .inr (by simp only; omega)⟩

theorem Shows.grows {r r' r'' : FaultRecord} (h : Shows r r') (h' : RecordGrows r' r'') (hbound : r'.later ≤ 255) : Shows r r'' := by
  obtain ⟨hle, hbound'⟩ := h'.later hbound
  refine ⟨h'.first h.first, ?_⟩
  rcases h.since with hs | hs | hs
  · exact .inl hs
  · exact .inr (.inl (hs.trans_le hle))
  · exact .inr (.inr (by omega))

theorem RecordGrows.shows {r r' r'' : FaultRecord} (h : RecordGrows r r') (h' : Shows r' r'') (hbound : r.later ≤ 255) :
    Shows r r'' := by
  obtain ⟨hle, -⟩ := h.later hbound
  refine ⟨h'.first, ?_⟩
  rcases h'.since with hs | hs | hs
  · exact .inl (not_not.mp (mt h.first (not_not.mpr hs)))
  · exact .inr (.inl (hle.trans_lt hs))
  · exact .inr (.inr hs)

theorem foldl_bumped_shows {l : List FaultInfo} (hl : l ≠ []) {r : FaultRecord} (hr : r.later ≤ 255) :
    Shows r (l.foldl bumped r) := by
  cases l with
  | nil => exact absurd rfl hl
  | cons i l => exact (bumped_shows r i).grows (foldl_bumped_grows l _) ((bumped_grows r i).later hr).2

theorem faultsTaken_faults (f : Port → List FaultInfo) (e : EventUnit) (p : Port) :
    (faultsTaken f e).faults.get p = (f p).foldl bumped (e.faults.get p) := by
  by_cases hf : f = fun _ => []
  · rw [hf, faultsTaken_nil]
    rfl
  · rw [faultsTaken_of_some hf]
    simp [eventsWith]

/-- POSTED_LOST stays raised, and the records grow. -/
structure EventsGrow (e e' : EventUnit) : Prop where
  lost : e.set.getLsbD 1 = true → e'.set.getLsbD 1 = true
  records : ∀ p, RecordGrows (e.faults.get p) (e'.faults.get p)

namespace EventsGrow

theorem refl (e : EventUnit) : EventsGrow e e := ⟨id, fun _ => .refl _⟩

theorem trans {e e' e'' : EventUnit} (h : EventsGrow e e') (h' : EventsGrow e' e'') : EventsGrow e e'' :=
  ⟨h'.lost ∘ h.lost, fun p => (h.records p).trans (h'.records p)⟩

theorem raised (m : BitVec 12) (e : EventUnit) : EventsGrow e (eventsWith m e) :=
  ⟨fun h => by simp [eventsWith, h], fun _ => .refl _⟩

theorem taken (f : Port → List FaultInfo) (e : EventUnit) : EventsGrow e (faultsTaken f e) := by
  refine ⟨fun h => ?_, fun p => faultsTaken_faults f e p ▸ foldl_bumped_grows _ _⟩
  by_cases hf : f = fun _ => []
  · rwa [hf, faultsTaken_nil]
  · rw [faultsTaken_of_some hf]
    simp [eventsWith, h]

end EventsGrow

/-! ### Writes that stay, and writes that are reported -/

/-- What a posted write carries from its master (R107). -/
def postedWrite (e : PostedEntry) : Port × Tag × Addr × Nat × List Beat := (e.port, e.tag, e.addr, e.beats, e.data)

/-- The writes of the buffer. -/
def postedWrites (s : State) : List (Port × Tag × Addr × Nat × List Beat) := s.posted.map postedWrite

/-- The buffer holds the same writes, and events and records grow. -/
structure Spares (s t : State) : Prop where
  writes : postedWrites t = postedWrites s
  events : EventsGrow s.events t.events

namespace Spares

theorem same {s t : State} (hposted : t.posted = s.posted := by rfl) (hevents : t.events = s.events := by rfl) : Spares s t :=
  ⟨by rw [postedWrites, postedWrites, hposted], hevents ▸ .refl _⟩

theorem raised {s t : State} (m : BitVec 12) (hposted : t.posted = s.posted := by rfl)
    (hevents : t.events = eventsWith m s.events := by rfl) : Spares s t :=
  ⟨by rw [postedWrites, postedWrites, hposted], hevents ▸ .raised m _⟩

theorem taken {s t : State} (f : Port → List FaultInfo) (hposted : t.posted = s.posted := by rfl)
    (hevents : t.events = faultsTaken f s.events := by rfl) : Spares s t :=
  ⟨by rw [postedWrites, postedWrites, hposted], hevents ▸ .taken f _⟩

theorem trans {s t u : State} (h : Spares s t) (h' : Spares t u) : Spares s u :=
  ⟨h'.writes.trans h.writes, h.events.trans h'.events⟩

theorem ite {c : Prop} [Decidable c] {s t u : State} (ht : Spares s t) (hu : Spares s u) : Spares s (if c then t else u) := by
  split <;> assumption

theorem foldl {α : Type} {f : State → α → State} (h : ∀ a s, Spares s (f s a)) (l : List α) (s : State) :
    Spares s (l.foldl f s) := by
  induction l generalizing s with
  | nil => exact same
  | cons a l ih => exact (h a s).trans (ih (f s a))

end Spares

/-- The counts of the records are within their bound (R172). -/
def Bounded (s : State) : Prop := ∀ p, (s.events.faults.get p).later ≤ 255

/-- A loss on a port is reported: POSTED_LOST is raised, and the port's record shows a fault taken since. -/
structure Reported (s t : State) (p : Port) : Prop where
  lost : t.events.set.getLsbD 1 = true
  record : Shows (s.events.faults.get p) (t.events.faults.get p)

/-- Events and records grow, and a write that is gone is reported. -/
structure Accounts (s t : State) : Prop where
  events : EventsGrow s.events t.events
  reported : Bounded s → ∀ k, (postedWrites t).count k < (postedWrites s).count k → Reported s t k.1

theorem EventsGrow.bounded {s t : State} (h : EventsGrow s.events t.events) (hs : Bounded s) : Bounded t :=
  fun p => ((h.records p).later (hs p)).2

theorem Reported.then {s t u : State} {p : Port} (h : Reported s t p) (h' : EventsGrow t.events u.events) (ht : Bounded t) :
    Reported s u p := ⟨h'.lost h.lost, h.record.grows (h'.records p) (ht p)⟩

theorem EventsGrow.reported {s t u : State} {p : Port} (h : EventsGrow s.events t.events) (h' : Reported t u p)
    (hs : Bounded s) : Reported s u p := ⟨h'.lost, (h.records p).shows h'.record (hs p)⟩

theorem Spares.accounts {s t : State} (h : Spares s t) : Accounts s t :=
  ⟨h.events, fun _ k hk => by simp [h.writes] at hk⟩

theorem Accounts.trans {s t u : State} (h : Accounts s t) (h' : Accounts t u) : Accounts s u := by
  refine ⟨h.events.trans h'.events, fun hs k hk => ?_⟩
  have ht := h.events.bounded hs
  by_cases hlost : (postedWrites u).count k < (postedWrites t).count k
  · exact h.events.reported (h'.reported ht k hlost) hs
  · exact (h.reported hs k (by omega)).then h'.events ht

/-! ### Events that lose no write -/

theorem stoppedFrom_spares (s : State) : Spares s (stoppedFrom s) := .raised 0x040

theorem enterStopped_spares (s : State) : Spares s (enterStopped s) := enterStopped_eq s ▸ stoppedFrom_spares s

theorem planEntry_spares (s : State) : Spares s (planEntry s) := planEntry_eq s ▸ .taken _

theorem raise_spares (k : EventKind) (s : State) : Spares s (raise k s) := .raised (eventBit k)

theorem beginFrame_spares (s : State) : Spares s (beginFrame s) := .trans .same (raise_spares .frameStart _)

/-- A plan that leaves ACTIVE carries its entries (R110). -/
theorem activate_spares (n : PlanName) (s : State) : Spares s (activate n s) := by
  rw [activate_eq]
  refine ⟨?_, .refl _⟩
  rw [postedWrites, swappedTo, List.map_map]
  refine List.map_congr_left fun e _ => ?_
  simp only [Function.comp_apply]
  split <;> rfl

theorem makeSwap_spares (s : State) : Spares s (makeSwap s) := by
  unfold makeSwap
  split
  · exact .same
  · exact .trans .same ((activate_spares _ _).trans ((planEntry_spares _).trans (raise_spares _ _)))

theorem frameBoundary_spares (s : State) : Spares s (frameBoundary s) :=
  .trans .same ((makeSwap_spares (nextFrame s)).trans (.ite (enterStopped_spares _) (beginFrame_spares _)))

theorem takeWalkTick_spares (s : State) : Spares s (takeWalkTick s) := by
  have hexpired (t : State) : Spares t (expireWindow t) := .ite .same (frameBoundary_spares t)
  exact .ite .same (.ite (.trans .same (hexpired _)) .same)

theorem takeOwedWalk_spares (s : State) : Spares s (takeOwedWalk s) := .ite (takeWalkTick_spares s) .same

theorem expireOne_spares (p : Port) (s : State) : Spares s (expireOne p s) := by
  cases hfind : (s.ports.get p).queue.find? expired with
  | none =>
    have hsame : expireOne p s = s := by simp [expireOne, hfind]
    rw [hsame]; exact .same
  | some h => exact expireOne_eq hfind ▸ .taken _

theorem expireAll_spares (s : State) : Spares s (expireAll s) :=
  .foldl (fun p t => .foldl (fun _ => expireOne_spares p) _ t) _ s

theorem completeCheck_spares (s : State) : Spares s (completeCheck s) := by
  unfold completeCheck
  split
  · exact .trans .same (raise_spares .checkDone _)
  · exact .same

theorem recoverySucceeds_spares (s : State) : Spares s (recoverySucceeds s) :=
  .trans .same ((raise_spares .recoveryDone _).trans (enterStopped_spares _))

theorem endPulse_spares (s : State) : Spares s (endPulse s) :=
  .ite (.ite (.trans .same (recoverySucceeds_spares _)) .same) .same

theorem memrdyRises_spares (s : State) : Spares s (memrdyRises s) := by
  unfold memrdyRises
  split
  · exact recoverySucceeds_spares s
  · exact .same
  · exact .same

theorem expireReadyWait_spares (s : State) : Spares s (expireReadyWait s) :=
  .ite (.trans .same (raise_spares .recoveryDone _)) .same

theorem seenEdge_spares (e : SyncEdge) (s : State) : Spares s (seenEdge e s) := by
  have hact (o : SyncOutcome) (t : State) : Spares t (actOnOutcome o t) := by
    cases o with
    | started => exact .trans .same ((beginFrame_spares _).trans (planEntry_spares _))
    | earlyCut => exact frameBoundary_spares t
    | lateRewind => exact .same
    | outOfLimit => exact raise_spares .syncLost t
    | none => exact .same
    | observed => exact .same
    | inStep => exact .same
  exact .ite (.trans .same ((raise_spares .syncCaptured _).trans (hact _ _))) .same

/-- The share of a gate tick that comes after all that was due. -/
theorem tickCounts_spares (s : State) : Spares s (tickReset (tickCheck (tickMemory (tickDeadlines (tickWalk s))))) := by
  have hreset (t : State) : Spares t (tickReset t) := .ite .same .same
  have hwalk : Spares s (tickWalk s) := .ite .same (takeWalkTick_spares s)
  have hother : Spares (tickWalk s) (tickCheck (tickMemory (tickDeadlines (tickWalk s)))) := .same
  exact hwalk.trans (hother.trans (hreset _))

/-! ### Failures -/

theorem count_map_filter_lt {α β : Type} [BEq β] [LawfulBEq β] {f : α → Bool} {g : α → β} {l : List α} {k : β}
    (h : ((l.filter f).map g).count k < (l.map g).count k) : ∃ a ∈ l, f a = false ∧ g a = k := by
  by_contra hnone
  simp only [not_exists, not_and] at hnone
  refine h.ne ?_
  simp only [List.count, List.countP_map, List.countP_filter]
  refine List.countP_congr fun a ha => ?_
  have := hnone a ha
  cases hf : f a <;> simp_all

/-- The writes that a memory failure drops are IN_FLIGHT, and each is a fault of its port (R118). -/
theorem failedFrom_accounts (why : FailureKind) (s : State) : Accounts s (failedFrom why s) := by
  have hevents : EventsGrow s.events (failedFrom why s).events := (EventsGrow.taken _ _).trans (.raised _ _)
  refine ⟨hevents, fun hs k hk => ?_⟩
  obtain ⟨e, he, hwaiting, rfl⟩ := count_map_filter_lt (g := postedWrite) hk
  have hflight : e ∈ inFlightEntries s := List.mem_filter.mpr ⟨he, by simpa [bne] using hwaiting⟩
  have hfaults : failureFaults s e.port ≠ [] := by
    have hmem : e ∈ (inFlightEntries s).filter (fun o => o.port == e.port) := List.mem_filter.mpr ⟨hflight, beq_self_eq_true _⟩
    simp only [failureFaults, ne_eq, List.append_eq_nil_iff, List.map_eq_nil_iff, not_and]
    exact fun hnil => absurd hnil (List.ne_nil_of_mem hmem)
  have hsome : (inFlightEntries s).isEmpty = false := List.isEmpty_eq_false_iff.mpr (List.ne_nil_of_mem hflight)
  refine ⟨by simp [failedFrom, hsome, eventsWith], ?_⟩
  have hrecord : (failedFrom why s).events.faults.get e.port = (failureFaults s e.port).foldl bumped (s.events.faults.get e.port) :=
    faultsTaken_faults _ _ _
  show Shows _ ((failedFrom why s).events.faults.get e.port)
  rw [hrecord]
  exact foldl_bumped_shows hfaults (hs e.port)

theorem timeoutTest_accounts (s : State) : Accounts s (timeoutTest s) := by
  unfold timeoutTest
  split
  · exact memoryFailure_eq .timeout s ▸ failedFrom_accounts .timeout s
  · exact Spares.accounts .same

/-- What an event leaves unreported: nothing. -/
def LossesReported (s t : State) : Prop :=
  Bounded s → ∀ k, (postedWrites t).count k < (postedWrites s).count k → Reported s t k.1

theorem lossesReported_of_writes {s t : State} (h : postedWrites t = postedWrites s) : LossesReported s t :=
  fun _ k hk => by simp [h] at hk

theorem takeResetStep_writes (s : State) : postedWrites (takeResetStep s) = postedWrites s := by
  unfold takeResetStep
  split
  · rw [postedWrites, postedWrites]
    exact congrArg _ (setDevice_posted _ s)
  · rfl

/-- A failure leaves nothing more due: no recovery is in progress, and RESET GATE is abandoned (R191). -/
theorem takeDue_of_failure {s : State} (hs : GateParts s) (hdue : overdue s = true) :
    takeResetStep (expireReadyWait (endPulse (timeoutTest s))) = failedFrom .timeout s := by
  have hready := ready_of_overdue hdue
  have hidle : (failedFrom .timeout s).mem.recovery = .idle := hs.idle_of_ready hready
  have hfailed := hs.fail .timeout hready
  have hreset : (failedFrom .timeout s).link.resetDue = false :=
    hfailed.not_due_of_resetting (hfailed.not_resetting_of_gate (by simp [failedFrom]))
  have htimeout : timeoutTest s = failedFrom .timeout s := by rw [timeoutTest, if_pos hdue, memoryFailure_eq]
  have hpulse : endPulse (failedFrom .timeout s) = failedFrom .timeout s := by simp [endPulse, hidle]
  have hwait : expireReadyWait (failedFrom .timeout s) = failedFrom .timeout s := by simp [expireReadyWait, hidle]
  rw [htimeout, hpulse, hwait, takeResetStep, hreset]
  rfl

/-- A gate tick loses writes at a TIMEOUT alone, after which it takes no reset step. -/
theorem gateTick_losses {s : State} (hs : GateParts s) : LossesReported s (gateTick s) := by
  have hbefore := ((takeOwedWalk_spares s).trans (expireAll_spares _)).trans (completeCheck_spares _)
  have hacts : Acts s (completeCheck (expireAll (takeOwedWalk s))) :=
    ((takeOwedWalk_acts s).trans (expireAll_acts _)).trans (completeCheck_acts _)
  have hgate := hacts.keeps Act.gateParts hs
  have hcounts := tickCounts_spares { takeDue s with ticked := 0 }
  unfold gateTick
  unfold takeDue at hcounts ⊢
  generalize completeCheck (expireAll (takeOwedWalk s)) = v at hbefore hgate hcounts ⊢
  by_cases hdue : overdue v = true
  · rw [takeDue_of_failure hgate hdue] at hcounts ⊢
    exact (hbefore.accounts.trans ((failedFrom_accounts .timeout v).trans (Spares.trans .same hcounts).accounts)).reported
  · have htimeout : timeoutTest v = v := if_neg hdue
    rw [htimeout] at hcounts ⊢
    have hwrites := hcounts.writes
    have hafter := ((endPulse_spares v).trans (expireReadyWait_spares _)).writes
    refine lossesReported_of_writes (hwrites.trans ?_)
    exact ((takeResetStep_writes _).trans hafter).trans hbefore.writes

/-! ### Completions -/

theorem count_map_eraseP {β : Type} [BEq β] [LawfulBEq β] {g : PostedEntry → β} {f : PostedEntry → Bool} {l : List PostedEntry}
    {o : PostedEntry} {k : β} (hfind : l.find? f = some o) (h : ((l.eraseP f).map g).count k < (l.map g).count k) : g o = k := by
  by_contra hne
  have hcount := ((perm_cons_eraseP hfind).map g).count_eq k
  rw [List.map_cons, List.count_cons_of_ne hne] at hcount
  omega

/-- An OK of the memory to the oldest entry, which is that of a posted write. -/
def Acknowledged (s : State) (m : MemResponse) (k : Port × Tag × Addr × Nat × List Beat) : Prop :=
  m.ok = true ∧ ∃ h, s.mem.issueList.head? = some h ∧ h.source = .posted ∧ m.tag = h.issueTag
    ∧ h.addr = k.2.2.1 ∧ h.beats = k.2.2.2.1

/-- A completion that ends a posted write with an ERROR reports it (R117). -/
theorem loseEntry_accounts {s : State} {f : PostedEntry → Bool} {o : PostedEntry} (hfind : s.posted.find? f = some o)
    (reason : FaultReason) : Accounts s (loseEntry reason { s with posted := s.posted.eraseP f } o) := by
  have hevents : (loseEntry reason { s with posted := s.posted.eraseP f } o).events =
      faultsTaken (faultsOf o.port [faultNow s reason o.tag .write o.addr o.beats]) (eventsWith 0x002 s.events) := by
    rw [loseEntry_eq]
    rfl
  have hgrow : EventsGrow s.events (loseEntry reason { s with posted := s.posted.eraseP f } o).events :=
    hevents ▸ (EventsGrow.raised _ _).trans (.taken _ _)
  refine ⟨hgrow, fun hs k hk => ?_⟩
  obtain rfl := count_map_eraseP (g := postedWrite) hfind hk
  refine ⟨?_, ?_⟩
  · rw [hevents]
    exact (EventsGrow.taken _ _).lost (by simp [eventsWith])
  · rw [hevents, faultsTaken_faults]
    exact foldl_bumped_shows (by simp [faultsOf, postedWrite]) (hs _)

theorem completesOk_ok {e : IssueEntry} {m : MemResponse} (h : completesOk e m = true) : m.ok = true := by
  simp only [completesOk, Bool.and_eq_true] at h
  exact h.1

theorem takeResponse_of_oldest {s : State} {m : MemResponse} {e : IssueEntry} {rest : List IssueEntry}
    (hready : s.mem.state = .ready) (hlist : s.mem.issueList = e :: rest) (htag : m.tag = e.issueTag) :
    takeResponse m s = timeoutTest (completeEntry e m (withIssues rest s)) := by
  simp only [takeResponse, hready, hlist, if_pos htag, withIssues]

/-- A response that no oldest entry awaits leaves the port as it is, or fails it (R131, R145). -/
theorem takeResponse_of_no_oldest {s : State} {m : MemResponse}
    (h : ¬∃ e rest, s.mem.state = .ready ∧ s.mem.issueList = e :: rest ∧ m.tag = e.issueTag) :
    takeResponse m s = s ∨ takeResponse m s = failedFrom .order s := by
  unfold takeResponse
  split
  · exact .inl rfl
  · exact .inl rfl
  · rename_i hready
    split
    · exact .inr (memoryFailure_eq .order s)
    · rename_i e rest hlist
      rw [if_neg fun htag => h ⟨e, rest, hready, hlist, htag⟩]
      exact .inr (memoryFailure_eq .order s)

theorem takeResponse_losses {s : State} (m : MemResponse) (hb : BufferParts s) (hs : Bounded s)
    (k : Port × Tag × Addr × Nat × List Beat) (hk : (postedWrites (takeResponse m s)).count k < (postedWrites s).count k) :
    Acknowledged s m k ∨ Reported s (takeResponse m s) k.1 := by
  by_cases holdest : ∃ e rest, s.mem.state = .ready ∧ s.mem.issueList = e :: rest ∧ m.tag = e.issueTag
  · obtain ⟨e, rest, hready, hlist, htag⟩ := holdest
    rw [takeResponse_of_oldest hready hlist htag] at hk ⊢
    have hafter := timeoutTest_accounts (completeEntry e m (withIssues rest s))
    have hc := completeEntry_completed e m (withIssues rest s)
    generalize completeEntry e m (withIssues rest s) = v at hc hk hafter ⊢
    have haccounts (hv : Accounts s v) : Acknowledged s m k ∨ Reported s (timeoutTest v) k.1 :=
      .inr ((hv.trans hafter).reported hs k hk)
    cases hc with
    | orphan => exact haccounts (Spares.accounts .same)
    | okay => exact haccounts (Spares.accounts .same)
    | fault =>
      rw [handFault_eq_faultsTaken] at haccounts hk ⊢
      exact haccounts (Spares.taken (s := s) _).accounts
    | unmatched => exact haccounts (Spares.accounts .same)
    | lost _ hfind =>
      exact haccounts ((Spares.accounts .same).trans (loseEntry_accounts (s := withIssues rest s) hfind .postedFailed))
    | @freed o hsource hfind hok =>
      by_cases hlost : (postedWrites (timeoutTest { withIssues rest s with
          posted := s.posted.eraseP (inFlightAs e.issueTag) })).count k
            < ((s.posted.eraseP (inFlightAs e.issueTag)).map postedWrite).count k
      · obtain ⟨hset, hrecord⟩ := hafter.reported hs k hlost
        exact .inr ⟨hset, hrecord⟩
      · have hgone : ((s.posted.eraseP (inFlightAs e.issueTag)).map postedWrite).count k
            < (s.posted.map postedWrite).count k := (not_lt.mp hlost).trans_lt hk
        obtain rfl := count_map_eraseP hfind hgone
        have hkey := hb.key_of_tag (e := e) (by simp [hlist]) (List.mem_of_find?_eq_some hfind)
          (BufferParts.inFlightAs_iff.mp (List.find?_some hfind))
        rw [inFlightKey_of_inFlight (BufferParts.inFlightAs_iff.mp (List.find?_some hfind)), postedKey_of_posted hsource,
          Option.some.injEq, Prod.mk.injEq, Prod.mk.injEq] at hkey
        obtain ⟨-, haddr, hbeats⟩ := hkey
        exact .inl ⟨completesOk_ok hok, e, by simp [hlist], hsource, htag, haddr.symm, hbeats.symm⟩
  · obtain hsame | hfail := takeResponse_of_no_oldest holdest
    · rw [hsame] at hk
      exact absurd hk (lt_irrefl _)
    · rw [hfail] at hk ⊢
      exact .inr ((failedFrom_accounts .order s).reported hs k hk)

/-! ### The management commands -/

theorem LeavesTheGate.writes {s t : State} (h : LeavesTheGate s t) : postedWrites t = postedWrites s := by
  rw [postedWrites, postedWrites, h.posted]

theorem setDevice_spares (d : Device) (s : State) : Spares s (setDevice d s) := setDevice_eq d s ▸ .same

theorem clearQueue_spares (st : Status) (p : Port) (s : State) : Spares s (clearQueue st p s) := clearQueue_eq st p s ▸ .same

theorem takeSetDevice_accounts (d : Byte) (l : BitVec 16) (p b : Byte) (s : State) :
    Accounts s (takeSetDevice d l p b s).1 := by
  have hset (x : Device) : Accounts s (applyDevice x s) := by
    have hcleared : Spares s (if s.device.bootPass && !x.bootPass then clearQueue .closed .p0 (setDevice x s) else setDevice x s) :=
      .ite ((setDevice_spares x s).trans (clearQueue_spares _ _ _)) (setDevice_spares x s)
    unfold applyDevice
    dsimp only
    split
    · exact hcleared.accounts
    · exact hcleared.accounts.trans (timeoutTest_accounts _)
  unfold takeSetDevice
  split
  · split_ifs
    · exact Spares.accounts .same
    · exact Spares.accounts .same
    · exact hset _
  · exact Spares.accounts .same

theorem takeRequestSwap_spares (plan : Byte) (s : State) : Spares s (takeRequestSwap plan s).1 := by
  unfold takeRequestSwap
  split
  · exact .same
  · split
    · unfold swapStopped
      split
      · exact (activate_spares _ s).trans (raise_spares _ _)
      · exact .same
    · unfold swapRunning
      split_ifs <;> exact .same
    · exact .same
    · exact .same
    · exact .same

theorem takeWithdrawSwap_spares (s : State) : Spares s (takeWithdrawSwap s).1 := .same

theorem takeStart_spares (mode : Byte) (s : State) : Spares s (takeStart mode s).1 := by
  unfold takeStart
  split_ifs
  · exact .same
  · exact .same
  · exact .same
  · exact .trans .same ((beginFrame_spares _).trans (planEntry_spares _))
  · exact .same
  · exact .same

theorem takeHalt_spares (s : State) : Spares s (takeHalt s).1 := by
  unfold takeHalt
  split
  · exact .same
  · exact .same
  · exact enterStopped_spares s
  · exact .same
  · exact .same

theorem takeHaltNow_spares (s : State) : Spares s (takeHaltNow s).1 := by
  have hstop : Spares s (enterStopped (withdrawPending s)) := .trans .same (enterStopped_spares _)
  unfold takeHaltNow
  split
  · exact hstop
  · exact hstop
  · exact hstop
  · exact .same
  · exact .same

theorem takeRecover_spares (s : State) : Spares s (takeRecover s).1 := by
  unfold takeRecover
  split_ifs <;> exact .same

theorem takeResetGate_spares (s : State) : Spares s (takeResetGate s).1 := by
  have hbegin (t : State) : Spares t (beginReset t) := .trans .same (clearQueue_spares .closed .p0 _)
  unfold takeResetGate
  split
  · exact .same
  · exact .same
  · exact .same
  · exact (enterStopped_spares s).trans (hbegin _)
  · exact hbegin s

theorem ruleOverTheGate_accounts {c : Instr} {rule : State → State × Reply} (hc : commandRule c = some rule)
    (hleaves : ¬leavesTheGate c) (s : State) : Accounts s (rule s).1 := by
  cases c <;> cases hc
  case setDevice => exact takeSetDevice_accounts _ _ _ _ s
  case requestSwap => exact (takeRequestSwap_spares _ s).accounts
  case withdrawSwap => exact (takeWithdrawSwap_spares s).accounts
  case start => exact (takeStart_spares _ s).accounts
  case halt => exact (takeHalt_spares s).accounts
  case haltNow => exact (takeHaltNow_spares s).accounts
  case recover => exact (takeRecover_spares s).accounts
  case resetGate => exact (takeResetGate_spares s).accounts
  all_goals exact absurd rfl hleaves

/-- The rule of a management command loses writes only at the failure that SET DEVICE can bring (R185). -/
theorem rule_losses {c : Instr} {rule : State → State × Reply} (hc : commandRule c = some rule) (s : State) :
    LossesReported s (rule s).1 := by
  by_cases hleaves : leavesTheGate c
  · exact lossesReported_of_writes (rule_leavesTheGate hc hleaves s).writes
  · exact (ruleOverTheGate_accounts hc hleaves s).reported

/-! ### Every command -/

/-- The buffer, the event set and the records are left. -/
structure SameReports (s t : State) : Prop where
  posted : t.posted = s.posted := by rfl
  set : t.events.set = s.events.set := by rfl
  faults : t.events.faults = s.events.faults := by rfl

theorem LossesReported.of_same {s u v t : State} (h : LossesReported u v) (hu : SameReports s u) (ht : SameReports v t) :
    LossesReported s t := by
  intro hs k hk
  have hbounded : Bounded u := fun p => by rw [hu.faults]; exact hs p
  rw [postedWrites, postedWrites, ht.posted, ← hu.posted] at hk
  obtain ⟨hlost, hrecord⟩ := h hbounded k hk
  rw [hu.faults] at hrecord
  refine ⟨by rw [ht.set]; exact hlost, by rw [ht.faults]; exact hrecord⟩

theorem takeCommand_losses {c : Instr} {rule : State → State × Reply} (hc : commandRule c = some rule) (code : Byte) (s : State) :
    LossesReported s (takeCommand code rule s) := by
  have hanswer (r : Reply) (t : State) : SameReports t (answerCommand code r t) := by
    unfold answerCommand
    split <;> exact {}
  unfold takeCommand
  split
  · exact lossesReported_of_writes (by rw [postedWrites, postedWrites, (hanswer _ s).posted])
  · exact (rule_losses hc s).of_same {} (hanswer _ _)

theorem takeFrame_losses (frame : List Byte) (s : State) : LossesReported s (takeFrame frame s) := by
  simp only [takeFrame]
  split
  · rename_i rule hrule
    obtain ⟨c, -, hc⟩ := Option.bind_eq_some_iff.mp hrule
    exact takeCommand_losses hc _ s
  · exact lossesReported_of_writes rfl

theorem takeByte_losses (b : Byte) (s : State) : LossesReported s (takeByte b s) := by
  unfold takeByte
  split
  · exact lossesReported_of_writes rfl
  · unfold commandByte takeCrcByte
    split_ifs
    · exact (takeFrame_losses _ (setDataOut 0xFF s)).of_same {} {}
    · exact lossesReported_of_writes rfl
    · exact lossesReported_of_writes rfl
  · refine lossesReported_of_writes ?_
    unfold responseByte
    split <;> rfl
  · exact lossesReported_of_writes rfl

theorem onEvent_losses {f : State → State} {s u t : State} (ht : onEvent f u = .next t) (hu : SameReports s u)
    (hf : LossesReported (quiet u) (f (quiet u))) : LossesReported s t := by
  cases ht
  split
  · exact lossesReported_of_writes (by rw [postedWrites, postedWrites]; exact congrArg _ hu.posted)
  · exact hf.of_same ⟨hu.posted, hu.set, hu.faults⟩ {}

theorem spares_losses {f : State → State} {s u t : State} (ht : onEvent f u = .next t) (hu : SameReports s u)
    (hf : ∀ v, Spares v (f v)) : LossesReported s t := onEvent_losses ht hu (hf _).accounts.reported

theorem frameStep_losses {frame : List Byte} {take : State → State} {s t : State} (ht : frameStep frame take s = .next t)
    (hf : ∀ v, LossesReported v (take v)) : LossesReported s t := by
  refine onEvent_losses ht {} ?_
  split
  · exact (hf (receiveFrame frame (quiet s))).of_same {} {}
  · exact lossesReported_of_writes rfl

theorem acceptRequest_losses (p : Port) (r : Request) (s : State) : LossesReported s (acceptRequest p r s) := by
  have hc := acceptRequest_accepted p r s
  generalize acceptRequest p r s = t at hc ⊢
  cases hc with
  | faulted => exact lossesReported_of_writes rfl
  | rejected => exact lossesReported_of_writes rfl
  | posted =>
    intro _ k hk
    simp only [postedWrites, postWrite, give, List.map_append, List.count_append] at hk
    omega
  | held => exact lossesReported_of_writes rfl

theorem decideGrant_losses (memReady : Bool) (s : State) : LossesReported s (decideGrant memReady s) := by
  have hc := decideGrant_granted memReady s
  generalize decideGrant memReady s = t at hc ⊢
  cases hc with
  | none => exact lossesReported_of_writes rfl
  | head => exact lossesReported_of_writes rfl
  | write _ hposted => exact lossesReported_of_writes (by simp [postedWrites, withWriteIssued, hposted, postedWrite])

/-- The rows of the table that are no management command, no pin reset and no memory response. -/
theorem exec_event_losses {c : Instr} (hc : commandRule c = none) {s t : State} (hs : GateParts s) (hpor : c ≠ .por)
    (hrst : c ≠ .rst) (hmem : ∀ m, c ≠ .memoryResponse m) (ht : exec c s = .next t) : LossesReported s t := by
  have hquiet : LossesReported s (quiet s) := lossesReported_of_writes rfl
  cases c <;> cases hc
  case por => exact absurd rfl hpor
  case rst => exact absurd rfl hrst
  case linkReset p =>
    simp only [exec, execLinkReset] at ht
    split at ht
    · cases ht; exact hquiet
    · exact onEvent_losses ht {} (lossesReported_of_writes rfl)
  case linkResetRelease p => cases ht; exact lossesReported_of_writes rfl
  case gateTick =>
    exact onEvent_losses ht {} (gateTick_losses (hs.of_frame {}))
  case windowExpiry => exact spares_losses ht {} takeOwedWalk_spares
  case holdLimitExpiry p => exact spares_losses ht {} (expireOne_spares p)
  case checkCompletion => exact spares_losses ht {} completeCheck_spares
  case timeout => exact onEvent_losses ht {} ((timeoutTest_accounts _).reported)
  case recoveryPulseEnd level =>
    have hend (v : State) : Spares v (if v.mem.recovery = .pulse 0 then endPulse (setMemrdy level v) else v) :=
      .ite (.trans .same (endPulse_spares _)) .same
    exact onEvent_losses ht {} (hend (quiet s)).accounts.reported
  case memrdyAsserted => exact spares_losses ht {} memrdyRises_spares
  case readyWaitExpiry => exact spares_losses ht {} expireReadyWait_spares
  case resetStep => exact onEvent_losses ht {} (lossesReported_of_writes (takeResetStep_writes _))
  case syncEdge e => exact spares_losses ht {} (seenEdge_spares e)
  case requestArrival p r =>
    refine onEvent_losses ht {} ?_
    split
    · exact acceptRequest_losses p r _
    · exact lossesReported_of_writes rfl
  case grant ready => exact onEvent_losses ht {} (decideGrant_losses ready _)
  case memoryResponse m => exact absurd rfl (hmem m)
  case chipSelectFall =>
    simp only [exec, execChipSelectFall] at ht
    split at ht
    · cases ht; exact hquiet
    · exact onEvent_losses ht {} (lossesReported_of_writes rfl)
  case chipSelectRise edges =>
    simp only [exec, execChipSelectRise] at ht
    split at ht
    · refine onEvent_losses ht {} (lossesReported_of_writes ?_)
      rw [postedWrites, postedWrites, (riseSelect_still edges _).posted]
    · cases ht; exact hquiet
  case badCrc frame crc =>
    simp only [exec, execBadCrc] at ht
    split at ht
    · exact frameStep_losses ht (fun v => lossesReported_of_writes rfl)
    · cases ht; exact hquiet
  case unknown code =>
    simp only [exec, execUnknown] at ht
    split at ht
    · exact frameStep_losses ht (fun v => lossesReported_of_writes rfl)
    · cases ht; exact hquiet
  case linkByte b => exact onEvent_losses ht {} (takeByte_losses b _)
  case resetRelease =>
    simp only [exec, execResetRelease] at ht
    cases ht
    split <;> exact lossesReported_of_writes rfl

theorem exec_losses {c : Instr} {s t : State} (hs : GateParts s) (hpor : c ≠ .por) (hrst : c ≠ .rst)
    (hmem : ∀ m, c ≠ .memoryResponse m) (ht : exec c s = .next t) : LossesReported s t := by
  cases hc : commandRule c with
  | none => exact exec_event_losses hc hs hpor hrst hmem ht
  | some rule =>
    rw [exec_of_commandRule hc s, commandStep] at ht
    split at ht
    · exact frameStep_losses ht (fun v => takeCommand_losses hc _ v)
    · cases ht
      exact lossesReported_of_writes rfl

theorem exec_memoryResponse_losses {m : MemResponse} {s t : State} (hb : BufferParts s) (hs : Bounded s)
    (ht : exec (.memoryResponse m) s = .next t) (k : Port × Tag × Addr × Nat × List Beat)
    (hk : (postedWrites t).count k < (postedWrites s).count k) : Acknowledged s m k ∨ Reported s t k.1 := by
  obtain hr | hr := Bool.eq_false_or_eq_true s.inReset
  · rw [exec, execMemoryResponse, onEvent_of_inReset hr] at ht
    cases ht
    exact absurd hk (lt_irrefl _)
  · rw [exec, execMemoryResponse, onEvent_of_running hr] at ht
    cases ht
    obtain hok | ⟨hset, hrecord⟩ := takeResponse_losses (s := quiet s) m (hb.of_frame {}) hs k hk
    · exact .inl hok
    · exact .inr ⟨hset, hrecord⟩

theorem countP_write (l : List PostedEntry) (e : PostedEntry) :
    l.countP (fun o => decide ((o.port, o.tag, o.addr, o.beats, o.data) = (e.port, e.tag, e.addr, e.beats, e.data)))
      = (l.map postedWrite).count (postedWrite e) := by
  rw [List.count, List.countP_map]
  exact List.countP_congr fun o _ => by simp [postedWrite]

/-- Settles O30: a write leaves the buffer at an OK of the memory, or reported as lost, or at a pin reset. -/
theorem lostWritesAreReported : Obligations.LostWritesAreReported := by
  intro c s t e hlawful ht hk
  obtain ⟨-, hbuffer, hgate, -, -, -, -, hrange, -⟩ := hlawful
  have hbounded : Bounded s := fun p => ((rangeLaw_iff.mp hrange).faults p).1
  rw [gt_iff_lt, countP_write, countP_write] at hk
  have hreported (h : Reported s t e.port) : t.events.set.getLsbD 1 = true ∧ (t.events.faults.get e.port).first ≠ none
      ∧ ((s.events.faults.get e.port).first = none
        ∨ (s.events.faults.get e.port).later < (t.events.faults.get e.port).later
        ∨ (t.events.faults.get e.port).later = 255) := ⟨h.lost, h.record.first, h.record.since⟩
  by_cases hpor : c = .por
  · exact .inl hpor
  by_cases hrst : c = .rst
  · exact .inr (.inl hrst)
  by_cases hmem : ∃ m, c = .memoryResponse m
  · obtain ⟨m, rfl⟩ := hmem
    obtain ⟨hok, h, hhead, hsource, htag, haddr, hbeats⟩ | hlost :=
      exec_memoryResponse_losses (bufferLaw_iff.mp hbuffer) hbounded ht (postedWrite e) hk
    · exact .inr (.inr (.inl ⟨m, h, rfl, hok, hhead, hsource, htag, haddr, hbeats⟩))
    · exact .inr (.inr (.inr (hreported hlost)))
  · have hlosses := exec_losses (gateLaw_iff.mp hgate) hpor hrst (fun m hm => hmem ⟨m, hm⟩) ht
    exact .inr (.inr (.inr (hreported (hlosses hbounded (postedWrite e) hk))))

end Sys2Proof.Machine
end

section
/-! SUPPORT. Commands as steps, the resets of the part, and what reaches it in reset: every command completes (R65, R67, the
reset tables, log entries 1 to 3). -/

namespace Sys2Proof.Machine

-- One proof at a time, as in the sections before.
set_option Elab.async false

/-! ### Every command completes -/

theorem ite_next {c : Prop} [Decidable c] {x y : Host.Outcome State Fault Refusal} (hx : ∃ t, x = .next t)
    (hy : ∃ t, y = .next t) : ∃ t, (if c then x else y) = .next t := by
  split <;> assumption

theorem exec_event_next {c : Instr} (hc : commandRule c = none) (s : State) : ∃ t, exec c s = .next t := by
  have hquiet : ∃ t, (.next (quiet s) : Host.Outcome State Fault Refusal) = .next t := ⟨_, rfl⟩
  cases c <;> cases hc
  case linkReset p => exact ite_next hquiet (onEvent_next _ _)
  case chipSelectFall => exact ite_next hquiet (onEvent_next _ _)
  case chipSelectRise edges => exact ite_next (onEvent_next _ _) hquiet
  case badCrc frame crc => exact ite_next (frameStep_next _ _ _) hquiet
  case unknown code => exact ite_next (frameStep_next _ _ _) hquiet
  all_goals exact ⟨_, rfl⟩

theorem exec_next (c : Instr) (s : State) : ∃ t, exec c s = .next t := by
  cases hc : commandRule c with
  | none => exact exec_event_next hc s
  | some rule => rw [exec_of_commandRule hc]; exact commandStep_next c rule s

/-- Settles O1: the front of the queue is run on the rest, and every command completes. -/
theorem stepTakesTheFront : Obligations.StepTakesTheFront := ⟨fun _ _ _ => rfl, exec_next⟩

/-! ### The reset state -/

/-- Settles O2: the reset values, read off the reset state. -/
theorem resetStateIsTheManuals : Obligations.ResetStateIsTheManuals := by
  have hports : ∀ p, (State.reset.ports.get p).tags = [] ∧ (State.reset.ports.get p).queue = [] := by
    intro p
    cases p <;> exact ⟨rfl, rfl⟩
  refine ⟨rfl, rfl, rfl, by decide, rfl, by decide, rfl, rfl, rfl, rfl, rfl, rfl, rfl, hports, ?_⟩
  decide

theorem reset_rangeParts : RangeParts State.reset where
  plans n := by cases n <;> exact planRange_powerOn
  window := Nat.zero_le _
  offset := Nat.zero_le _
  held p x hx := by cases p <;> cases hx
  posted e he := by cases he
  issues e he := by cases he
  report := Nat.zero_le _
  limit := Nat.zero_le _
  capture c hc := by cases hc
  faults p := by cases p <;> exact recordRange_empty
  device := deviceRange_initial

/-- Nothing walks in the reset state, so that its position, lines and pending items are at rest (Table 2-1). -/
theorem reset_scheduleLaw : ScheduleLaw State.reset := by
  have hstill : ¬walking State.reset = true := by decide
  exact ⟨fun h => absurd h hstill, fun _ => ⟨rfl, rfl, rfl⟩, by decide, by decide⟩

theorem reset_linkParts : LinkParts State.reset where
  opened h := absurd rfl h
  frame h := absurd rfl h
  response := by decide
  size := Nat.zero_le _

/-- Settles O3: in the reset state every law holds, most of them of nothing. -/
theorem resetStateIsLawful : Obligations.ResetStateIsLawful := by
  have hports : TagLaw State.reset := fun p => by cases p <;> decide
  have hbuffer : BufferParts State.reset := (resetWith_bufferParts State.reset.plans State.reset).of_frame {}
  have hgate : GateParts State.reset := (resetWith_gateParts State.reset.plans State.reset).of_frame {}
  have hplan : PlanParts State.reset := .of_reset (s := State.reset) (.inr rfl) rfl rfl
  have hheld : HeldLaw State.reset := fun hw => absurd hw (by decide)
  have hposting : PostingLaw State.reset := fun e he => by cases he
  exact ⟨hports, bufferLaw_iff.mpr hbuffer, gateLaw_iff.mpr hgate, planLaw_iff.mpr hplan, reset_scheduleLaw, hheld, hposting,
    rangeLaw_iff.mpr reset_rangeParts, .of_reset, linkLaw_iff.mpr reset_linkParts⟩

/-! ### POR, RST and the release -/

/-- Settles O4: the resets are `resetWith`, and the release leaves all but the tick's count. -/
theorem pinResetsClearThePart : Obligations.PinResetsClearThePart := by
  refine ⟨fun s => rfl, fun s => rfl, fun s hr => ?_⟩
  rw [exec, execResetRelease, if_pos hr]
  rfl

/-! ### Commands in reset -/

section
variable {s : State}

theorem PerPort.set_linkReset_self {p : Port} {b : Bool} (h : (s.ports.get p).linkReset = b) :
    s.ports.set p { s.ports.get p with linkReset := b } = s.ports := by
  rw [← h]
  exact PerPort.set_get_self _ p

theorem exec_linkReset_inReset (hr : s.inReset = true) (p : Port) : exec (.linkReset p) s = .next { s with
    ports := s.ports.set p { s.ports.get p with linkReset := true }, out := Outputs.none } := by
  rw [exec, execLinkReset]
  split
  · rename_i hasserted
    rw [PerPort.set_linkReset_self hasserted]
    rfl
  · exact onEvent_of_inReset hr

theorem exec_chipSelectFall_inReset (hr : s.inReset = true) : exec .chipSelectFall s = .next { s with
    link := { s.link with selected := true }, out := Outputs.none } := by
  rw [exec, execChipSelectFall]
  split
  · rename_i hselected
    rw [← hselected]
    rfl
  · exact onEvent_of_inReset hr

theorem exec_chipSelectRise_inReset (hr : s.inReset = true) (edges : Fin 8) : exec (.chipSelectRise edges) s = .next { s with
    link := { s.link with selected := false }, out := Outputs.none } := by
  rw [exec, execChipSelectRise]
  split
  · exact onEvent_of_inReset hr
  · rename_i hselected
    rw [← Bool.eq_false_of_not_eq_true hselected]
    rfl

/-- A management command in reset finds no link (R26, log entry 3). -/
theorem exec_command_inReset {c : Instr} {rule : State → State × Reply} (hc : commandRule c = some rule) (hr : s.inReset = true) :
    exec c s = .next (quiet s) := by
  rw [exec_of_commandRule hc, commandStep]
  split
  · exact onEvent_of_inReset hr
  · rfl

/-- The commands that move no pin have no effect in reset. -/
theorem exec_event_inReset {c : Instr} (hc : commandRule c = none) (hr : s.inReset = true) (hlinkReset : ∀ p, c ≠ .linkReset p ∧ c ≠ .linkResetRelease p)
    (hedge : ∀ e, c ≠ .syncEdge e) (hmemrdy : c ≠ .memrdyAsserted) (hfall : c ≠ .chipSelectFall)
    (hrise : ∀ edges, c ≠ .chipSelectRise edges) (hpor : c ≠ .por) (hrst : c ≠ .rst) (hrelease : c ≠ .resetRelease) :
    exec c s = .next (quiet s) := by
  cases c <;> cases hc
  case por => exact absurd rfl hpor
  case rst => exact absurd rfl hrst
  case linkReset p => exact absurd rfl (hlinkReset p).1
  case linkResetRelease p => exact absurd rfl (hlinkReset p).2
  case memrdyAsserted => exact absurd rfl hmemrdy
  case syncEdge e => exact absurd rfl (hedge e)
  case chipSelectFall => exact absurd rfl hfall
  case chipSelectRise edges => exact absurd rfl (hrise edges)
  case resetRelease => exact absurd rfl hrelease
  case badCrc frame crc =>
    rw [exec, execBadCrc, frameStep, onEvent_of_inReset hr]
    exact ite_self _
  case unknown code =>
    rw [exec, execUnknown, frameStep, onEvent_of_inReset hr]
    exact ite_self _
  all_goals exact onEvent_of_inReset hr

end

theorem setSyncLevel_eq (e : SyncEdge) (s : State) :
    setSyncLevel e s = { s with sync := { s.sync with level := decide (e = .rising) } } := by
  cases e <;> rfl

/-- Settles O5: in reset only the levels of the pins move. -/
theorem commandsInResetMoveOnlyPins : Obligations.CommandsInResetMoveOnlyPins := by
  intro s hr
  refine ⟨exec_linkReset_inReset hr, fun p => rfl, fun e => ?_, ?_, exec_chipSelectFall_inReset hr,
    exec_chipSelectRise_inReset hr, fun c h1 h2 h3 h4 h5 h6 h7 h8 => ?_, fun hnone => ?_⟩
  · rw [exec, execSyncEdge, setSyncLevel_eq]
    exact onEvent_of_inReset hr
  · exact onEvent_of_inReset (s := setMemrdy true s) hr
  · cases hc : commandRule c with
    | none => exact exec_event_inReset hc hr h1 h2 h3 h4 h5 h6 h7 h8
    | some rule => exact exec_command_inReset hc hr
  · have hstep : step s = clockCycle s := by unfold step; rw [hnone]
    exact hstep.trans (onEvent_of_inReset hr)

/-! ### Link resets -/

theorem orphanIssues_eq (p : Port) (s : State) : orphanIssues p s = { s with mem := { s.mem with
    issueList := s.mem.issueList.map (fun e => match e.source with
      | .port q _ => if q = p then { e with orphan := true } else e
      | .posted => e) } } := by
  have hentry (e : IssueEntry) : (if fromPort p e then { e with orphan := true } else e) = (match e.source with
      | .port q _ => if q = p then { e with orphan := true } else e
      | .posted => e) := by
    unfold fromPort
    cases e.source <;> simp
  rw [orphanIssues]
  simp only [hentry]

/-- The steps of a link reset, with the pin asserted (R65). -/
theorem resetPort_asserted (p : Port) (s : State) : resetPort p (quiet (setLinkReset p true s)) = { s with
    ports := s.ports.set p ⟨[], [], true⟩
    mem := { s.mem with issueList := s.mem.issueList.map (fun e => match e.source with
      | .port q _ => if q = p then { e with orphan := true } else e
      | .posted => e) }
    events := eventsWith 0x400 s.events
    out := Outputs.none } := by
  rw [resetPort, orphanIssues_eq, raise_eq]
  simp only [mapPort, quiet, setLinkReset, PerPort.set_set, PerPort.get_set_same]
  rfl

/-- Settles O6: the steps of R65, and the release of R67. -/
theorem linkResetForgetsThePort : Obligations.LinkResetForgetsThePort := by
  refine ⟨fun p s hout hreleased => ?_, fun p s => rfl⟩
  rw [exec, execLinkReset, if_neg (by simp [hreleased])]
  exact (onEvent_of_running (s := setLinkReset p true s) hout).trans (congrArg _ (resetPort_asserted p s))

end Sys2Proof.Machine
end

section
/-! SUPPORT. The frames of Tables 11-2 and 11-3, a frame clocked byte by byte, and the answers of the link that run no
command (R176, R178, R181). -/

namespace Sys2Proof.Machine

-- One proof at a time, as in the sections before.
set_option Elab.async false

/-! ### Operands of several bytes -/

theorem extract_append_high {m n : Nat} (a : BitVec m) (b : BitVec n) {start len : Nat} (h : n ≤ start) :
    (a ++ b).extractLsb' start len = a.extractLsb' (start - n) len := BitVec.extractLsb'_append_eq_of_le h

theorem extract_all {n : Nat} (a : BitVec n) : a.extractLsb' 0 n = a := by
  simp

theorem append_extract {n : Nat} (x : BitVec n) {start len₁ len₂ : Nat} :
    x.extractLsb' (start + len₂) len₁ ++ x.extractLsb' start len₂ = x.extractLsb' start (len₁ + len₂) :=
  BitVec.extractLsb'_append_extractLsb'_eq_extractLsb' rfl

/-- Two bytes, high byte first, spell the 16-bit operand they were taken from (Table 11-3). -/
theorem join_two (x : BitVec 16) : x.extractLsb' 8 8 ++ x.extractLsb' 0 8 = x :=
  (append_extract x).trans (extract_all x)

theorem join_four (x : BitVec 32) :
    x.extractLsb' 24 8 ++ x.extractLsb' 16 8 ++ x.extractLsb' 8 8 ++ x.extractLsb' 0 8 = x := by
  have h2 : x.extractLsb' 24 8 ++ x.extractLsb' 16 8 = x.extractLsb' 16 16 := append_extract x
  have h1 : x.extractLsb' 16 16 ++ x.extractLsb' 8 8 = x.extractLsb' 8 24 := append_extract x
  have h0 : x.extractLsb' 8 24 ++ x.extractLsb' 0 8 = x.extractLsb' 0 32 := append_extract x
  rw [h2, h1, h0, extract_all]

theorem join_five (x : BitVec 40) :
    x.extractLsb' 32 8 ++ x.extractLsb' 24 8 ++ x.extractLsb' 16 8 ++ x.extractLsb' 8 8 ++ x.extractLsb' 0 8 = x := by
  have h3 : x.extractLsb' 32 8 ++ x.extractLsb' 24 8 = x.extractLsb' 24 16 := append_extract x
  have h2 : x.extractLsb' 24 16 ++ x.extractLsb' 16 8 = x.extractLsb' 16 24 := append_extract x
  have h1 : x.extractLsb' 16 24 ++ x.extractLsb' 8 8 = x.extractLsb' 8 32 := append_extract x
  have h0 : x.extractLsb' 8 32 ++ x.extractLsb' 0 8 = x.extractLsb' 0 40 := append_extract x
  rw [h3, h2, h1, h0, extract_all]

section
variable (a b c d e : Byte)

theorem split_two : (a ++ b).extractLsb' 8 8 = a ∧ (a ++ b).extractLsb' 0 8 = b :=
  ⟨BitVec.extractLsb'_append_eq_left, BitVec.extractLsb'_append_eq_right⟩

theorem split_three : (a ++ b ++ c).extractLsb' 16 8 = a ∧ (a ++ b ++ c).extractLsb' 8 8 = b
    ∧ (a ++ b ++ c).extractLsb' 0 8 = c := by
  obtain ⟨ha, hb⟩ := split_two a b
  exact ⟨(extract_append_high _ c (by decide)).trans ha, (extract_append_high _ c (by decide)).trans hb,
    BitVec.extractLsb'_append_eq_right⟩

theorem split_four : (a ++ b ++ c ++ d).extractLsb' 24 8 = a ∧ (a ++ b ++ c ++ d).extractLsb' 16 8 = b
    ∧ (a ++ b ++ c ++ d).extractLsb' 8 8 = c ∧ (a ++ b ++ c ++ d).extractLsb' 0 8 = d := by
  obtain ⟨ha, hb, hc⟩ := split_three a b c
  exact ⟨(extract_append_high _ d (by decide)).trans ha, (extract_append_high _ d (by decide)).trans hb,
    (extract_append_high _ d (by decide)).trans hc, BitVec.extractLsb'_append_eq_right⟩

theorem split_five : (a ++ b ++ c ++ d ++ e).extractLsb' 32 8 = a ∧ (a ++ b ++ c ++ d ++ e).extractLsb' 24 8 = b
    ∧ (a ++ b ++ c ++ d ++ e).extractLsb' 16 8 = c ∧ (a ++ b ++ c ++ d ++ e).extractLsb' 8 8 = d
    ∧ (a ++ b ++ c ++ d ++ e).extractLsb' 0 8 = e := by
  obtain ⟨ha, hb, hc, hd⟩ := split_four a b c d
  exact ⟨(extract_append_high _ e (by decide)).trans ha, (extract_append_high _ e (by decide)).trans hb,
    (extract_append_high _ e (by decide)).trans hc, (extract_append_high _ e (by decide)).trans hd,
    BitVec.extractLsb'_append_eq_right⟩

end

/-! ### Frames and commands -/

theorem decodeFrame_of_encodeFrame {c : Instr} {frame : List Byte} (h : encodeFrame c = some frame) :
    decodeFrame frame = some c := by
  cases c <;> cases h
  case takeEvents m => exact congrArg (fun x => some (Instr.takeEvents x)) (join_two m)
  case setAlerts m => exact congrArg (fun x => some (Instr.setAlerts x)) (join_two m)
  case setDevice d l p b => exact congrArg (fun x => some (Instr.setDevice d x p b)) (join_two l)
  case setSync m e l => exact congrArg (fun x => some (Instr.setSync m e x)) (join_two l)
  case writeWindow n i l o d => exact congrArg (fun x => some (Instr.writeWindow n i x o d)) (join_two l)
  case writeRegion n i b z r q =>
    exact congrArg₂ (fun x y => some (Instr.writeRegion n i x y r q)) (join_four b) (join_five z)
  case writePortSettings n p h q => exact congrArg (fun x => some (Instr.writePortSettings n p x q)) (join_two h)
  all_goals rfl

/-- A code not in Table 11-2 names no command, whatever follows it: all 256 codes. -/
theorem decodeFrame_of_unlisted (operands : List Byte) :
    ∀ code : Byte, commandRow code = none → decodeFrame (code :: operands) = none := by
  rintro ⟨⟨n, hn⟩⟩ h
  interval_cases n
  all_goals cases h <;> rfl

theorem exists_ofFn {l : List Byte} {n : Nat} (h : l.length = n) : ∃ f : Fin n → Byte, List.ofFn f = l :=
  ⟨fun i => l.get (i.cast h.symm), (List.ofFn_congr h l.get).symm.trans (List.ofFn_get l)⟩

theorem short_or_long (l : List Byte) (n : Nat) :
    (∃ m < n, ∃ f : Fin m → Byte, List.ofFn f = l) ∨ ∃ (f : Fin n → Byte) (rest : List Byte), List.ofFn f ++ rest = l := by
  by_cases h : l.length < n
  · exact .inl ⟨_, h, exists_ofFn rfl⟩
  · obtain ⟨f, hf⟩ := exists_ofFn (l := l.take n) (n := n) (by simpa using h)
    exact .inr ⟨f, l.drop n, by rw [hf, List.take_append_drop]⟩

/-- The frame of a listed code names a command only with the operand bytes of its row, which are at most 13. -/
theorem operands_of_decodeFrame {row : CommandRow} (hrow : row ∈ commandTable) {operands : List Byte} {c : Instr}
    (h : decodeFrame (row.code :: operands) = some c) : operands.length = row.operands := by
  obtain ⟨m, hm, f, rfl⟩ | ⟨f, rest, rfl⟩ := short_or_long operands 14
  · rw [List.length_ofFn]
    interval_cases m
    all_goals fin_cases hrow
    all_goals cases h <;> rfl
  · fin_cases hrow
    all_goals cases h

/-- The frame of a listed code with the operand bytes of its row is the frame of the command that it names. -/
theorem decodeFrame_row {row : CommandRow} (hrow : row ∈ commandTable) (f : Fin row.operands → Byte) :
    ∃ c, decodeFrame (row.code :: List.ofFn f) = some c ∧ encodeFrame c = some (row.code :: List.ofFn f) := by
  fin_cases hrow
  all_goals refine ⟨_, rfl, ?_⟩
  all_goals simp [encodeFrame, split_two, split_four, split_five]

theorem mem_of_commandRow {code : Byte} {row : CommandRow} (h : commandRow code = some row) :
    row ∈ commandTable ∧ row.code = code := ⟨List.mem_of_find?_eq_some h, by simpa using List.find?_some h⟩

/-- A frame that names a command has a row of Table 11-2 and its operand bytes. -/
theorem row_of_decodeFrame {frame : List Byte} {c : Instr} (h : decodeFrame frame = some c) :
    ∃ code operands row, frame = code :: operands ∧ commandRow code = some row ∧ operands.length = row.operands := by
  cases frame with
  | nil => cases h
  | cons code operands =>
    cases hrow : commandRow code with
    | none => rw [decodeFrame_of_unlisted operands code hrow] at h; cases h
    | some row =>
      obtain ⟨hmem, rfl⟩ := mem_of_commandRow hrow
      exact ⟨_, operands, row, rfl, hrow, operands_of_decodeFrame hmem h⟩

theorem command_of_row {code : Byte} {operands : List Byte} {row : CommandRow} (hrow : commandRow code = some row)
    (h : operands.length = row.operands) :
    ∃ c, decodeFrame (code :: operands) = some c ∧ encodeFrame c = some (code :: operands) := by
  obtain ⟨hmem, rfl⟩ := mem_of_commandRow hrow
  obtain ⟨f, rfl⟩ := exists_ofFn h
  exact decodeFrame_row hmem f

theorem encodeFrame_of_decodeFrame {frame : List Byte} {c : Instr} (h : decodeFrame frame = some c) :
    encodeFrame c = some frame := by
  obtain ⟨code, operands, row, rfl, hrow, hlength⟩ := row_of_decodeFrame h
  obtain ⟨c', hdecode, hencode⟩ := command_of_row hrow hlength
  rw [h] at hdecode
  obtain rfl := Option.some.inj hdecode
  exact hencode

/-- Settles O8: the frame's bytes are joined back to the operands, and a listed code with its operand bytes is a frame. -/
theorem framesAndCommandsAgree : Obligations.FramesAndCommandsAgree := by
  refine ⟨fun _ _ => decodeFrame_of_encodeFrame, fun _ _ => encodeFrame_of_decodeFrame,
    fun frame => ⟨fun ⟨c, h⟩ => row_of_decodeFrame h, ?_⟩⟩
  rintro ⟨code, operands, row, rfl, hrow, hlength⟩
  obtain ⟨c, hdecode, -⟩ := command_of_row hrow hlength
  exact ⟨c, hdecode⟩

/-! ### A frame byte by byte -/

theorem frameComplete_of_row {code : Byte} {row : CommandRow} (hrow : commandRow code = some row) (operands : List Byte) :
    frameComplete (code :: operands) = (operands.length == row.operands) := by
  simp [frameComplete, operandLength, hrow]

theorem commandRule_of_encodeFrame {c : Instr} {frame : List Byte} (h : encodeFrame c = some frame) :
    ∃ rule, commandRule c = some rule := by
  cases c <;> cases h
  all_goals exact ⟨_, rfl⟩

/-- One step of the machine takes the byte at the front of the queue. -/
theorem run_linkByte (n : Nat) (b : Byte) (rest : List Instr) {s t : State}
    (h : exec (.linkByte b) { s with pending := rest } = .next t) :
    Host.Core.run core (n + 1) { s with pending := .linkByte b :: rest } = Host.Core.run core n t := by
  have hstep : core.step { s with pending := .linkByte b :: rest } = .next t := h
  simp only [Host.Core.run, hstep]

/-- The link with some bytes of a frame received (R176). -/
def withFrame (frame : List Byte) (rest : List Instr) (s : State) : State :=
  { receiveFrame frame (quiet s) with pending := rest }

/-- A byte that does not yet complete the frame joins it (R176). -/
theorem exec_linkByte_joins {frame : List Byte} (b : Byte) (rest : List Instr) {s : State} (hout : s.inReset = false)
    (hframe : frameComplete frame = false) :
    exec (.linkByte b) (withFrame frame rest s) = .next (withFrame (frame ++ [b]) rest s) := by
  rw [exec_linkByte (s := withFrame frame rest s) b hout, takeByte_command (s := quiet (withFrame frame rest s)) rfl,
    commandByte_of_incomplete (s := setDataOut 0xFF (quiet (withFrame frame rest s))) hframe]
  rfl

/-- The bytes of the frame after its code, one step each. -/
theorem run_operands {code : Byte} {row : CommandRow} (hrow : commandRow code = some row) {s : State} (hout : s.inReset = false)
    (crc : Byte) (rest : List Instr) : ∀ received operands : List Byte, received.length + operands.length = row.operands →
      Host.Core.run core (operands.length + 1)
          (withFrame (code :: received) ((operands ++ [crc]).map Instr.linkByte ++ rest) s)
        = Host.Core.run core 1 (withFrame (code :: (received ++ operands)) (.linkByte crc :: rest) s) := by
  intro received operands
  induction operands generalizing received with
  | nil => intro _; simp
  | cons b operands ih =>
    intro hlength
    have hframe : frameComplete (code :: received) = false := by
      rw [frameComplete_of_row hrow]
      simp only [List.length_cons] at hlength
      simp only [beq_eq_false_iff_ne]
      omega
    have hjoins := exec_linkByte_joins b ((operands ++ [crc]).map Instr.linkByte ++ rest) hout hframe
    have hrun := run_linkByte (operands.length + 1) b _ (s := withFrame (code :: received) [] s) hjoins
    have hrest := ih (received ++ [b]) (by simp only [List.length_cons, List.length_append] at hlength ⊢; simp; omega)
    rw [List.append_assoc, List.singleton_append] at hrest
    exact hrun.trans hrest

/-- The CRC byte of a complete frame makes the command it names (R178). -/
theorem exec_crcByte {c : Instr} {rule : State → State × Reply} {code : Byte} {operands : List Byte} {s : State}
    (hout : s.inReset = false) (hc : encodeFrame c = some (code :: operands)) (hrule : commandRule c = some rule)
    (hcomplete : frameComplete (code :: operands) = true) (rest : List Instr) :
    exec (.linkByte (crc8 (code :: operands))) (withFrame (code :: operands) rest s)
      = .next (takeCommand code rule (withFrame (code :: operands) rest s)) := by
  rw [exec_linkByte_crc (s := withFrame (code :: operands) rest s) _ hout rfl hcomplete]
  have hbind : (decodeFrame (code :: operands)).bind commandRule = some rule := by rw [decodeFrame_of_encodeFrame hc]; exact hrule
  have hframe : takeFrame (code :: operands) (withFrame (code :: operands) rest s)
      = takeCommand code rule (withFrame (code :: operands) rest s) := by simp only [takeFrame, hbind, List.headD_cons]
  exact congrArg _ ((takeCrcByte_of_eq (s := setDataOut 0xFF (quiet (withFrame (code :: operands) rest s))) rfl).trans hframe)

/-- The byte after a fall of chip-select is a code (R176). -/
theorem exec_linkByte_code {code : Byte} {s : State} (hout : s.inReset = false) (hphase : s.link.phase = .command)
    (hlow : s.link.selected = true) (hempty : s.link.frame = []) (hnone : s.link.response = []) :
    exec (.linkByte code) s = .next (withFrame [code] s.pending s) := by
  have hincomplete : frameComplete s.link.frame = false := by rw [hempty]; rfl
  rw [exec_linkByte code hout, takeByte_command (s := quiet s) hphase,
    commandByte_of_incomplete (s := setDataOut 0xFF (quiet s)) hincomplete]
  simp only [withFrame, receiveFrame, setDataOut, quiet, hempty, hphase, hlow, hnone, List.nil_append]

/-- Settles O9: the code and the operand bytes join the frame, and its CRC byte makes the command. -/
theorem bytesMakeTheCommand : Obligations.BytesMakeTheCommand := by
  intro c frame s hc hout hphase hlow hempty hnone
  obtain ⟨code, operands, row, rfl, hrow, hlength⟩ := row_of_decodeFrame (decodeFrame_of_encodeFrame hc)
  obtain ⟨rule, hrule⟩ := commandRule_of_encodeFrame hc
  have hsend : Sendable c s := ⟨hout, _, hc, fun _ => by rw [hempty]; exact List.nil_prefix⟩
  have hcomplete : frameComplete (code :: operands) = true := by simp [frameComplete_of_row hrow, hlength]
  have hfirst : exec (.linkByte code) { s with pending := (operands ++ [crc8 (code :: operands)]).map Instr.linkByte ++ s.pending }
      = .next (withFrame [code] ((operands ++ [crc8 (code :: operands)]).map Instr.linkByte ++ s.pending) s) := by
    exact exec_linkByte_code (s := { s with pending := _ }) hout hphase hlow hempty hnone
  have hlast := exec_crcByte hout hc hrule hcomplete s.pending
  rw [exec_of_commandRule hrule, commandStep_of_sendable hc hsend]
  have hrun := run_operands hrow hout (crc8 (code :: operands)) s.pending [] operands (by simpa using hlength)
  refine (run_linkByte _ code _ hfirst).trans (hrun.trans ?_)
  exact run_linkByte 0 _ s.pending (s := withFrame (code :: operands) s.pending s) hlast

/-! ### Frames that run no command -/

/-- A frame that can be received from where the link stands is taken by its step. -/
theorem frameStep_of_begun {frame : List Byte} {take : State → State} {s : State} (hout : s.inReset = false)
    (hbegun : s.link.phase = .command → s.link.frame <+: frame) :
    frameStep frame take s = .next (take (receiveFrame frame (quiet s))) := by
  rw [frameStep, onEvent_of_running hout, if_pos ((canReceive_iff frame (quiet s)).mpr hbegun)]

/-- Settles O11: BAD_CRC and UNKNOWN answer, and BAD_CRC raises LINK_ERROR. -/
theorem badFramesCarryOutNothing : Obligations.BadFramesCarryOutNothing := by
  refine ⟨fun code operands crc s hout hlength hcrc hbegun => ?_, fun code s hout hrow hbegun => ?_⟩
  · have hframe : (frameComplete (code :: operands) && crc8 (code :: operands) != crc) = true := by
      simp [frameComplete, hlength, hcrc]
    rw [exec, execBadCrc, if_pos hframe, frameStep_of_begun hout hbegun]
    exact congrArg _ (answerBadCrc_eq (s := receiveFrame (code :: operands) (quiet s)) rfl rfl code)
  · rw [exec, execUnknown, if_pos (by simp [hrow]), frameStep_of_begun hout hbegun]
    exact congrArg _ (answerUnknown_eq (s := receiveFrame [code] (quiet s)) rfl rfl code)

/-! ### RESET GATE in progress -/

theorem code_of_not_status {c : Instr} {code : Byte} {operands : List Byte} (hc : encodeFrame c = some (code :: operands))
    (hne : c ≠ .status) : code ≠ statusCode := by
  rintro rfl
  have hdecode := decodeFrame_of_encodeFrame hc
  obtain rfl := List.length_eq_zero_iff.mp (operands_of_decodeFrame (row := ⟨0x01, 0, 26⟩) List.mem_cons_self hdecode)
  exact hne (Option.some.inj (hdecode.symm.trans rfl))

theorem takeCommand_of_resetting {code : Byte} {rule : State → State × Reply} {s : State} (h : s.link.resetting = true)
    (hcode : code ≠ statusCode) : takeCommand code rule s = answerCommand code (replyOnly .busy) s := by
  simp [takeCommand, h, hcode]

/-- Settles O12: the rule of the command is not run, and BUSY is answered with 0x00 bytes for data. -/
theorem resetGateMakesCommandsBusy : Obligations.ResetGateMakesCommandsBusy := by
  intro c code operands s hc hne hsend hresetting
  obtain ⟨rule, hrule⟩ := commandRule_of_encodeFrame hc
  have hcode := code_of_not_status hc hne
  rw [exec_of_commandRule hrule, commandStep_of_sendable hc hsend,
    takeCommand_of_resetting (s := receiveFrame (code :: operands) (quiet s)) hresetting hcode, answerCommand, if_neg hcode]
  rfl

end Sys2Proof.Machine
end

section
/-! SUPPORT. The commands that write plans and settings, and the commands that take the part through a recovery and a reset, as
steps of the link and of the part (R10, R148 to R151, R185, R186, R189, R190). -/

namespace Sys2Proof.Machine

-- One proof at a time, as in the sections before.
set_option Elab.async false

/-! ### Plan writes refused -/

/-- A plan write is `planWrite` with its plan operand. -/
theorem commandRule_of_writeTarget {c : Instr} {code plan : Byte} (h : writeTarget c = some (code, plan)) :
    ∃ operands change, encodeFrame c = some (code :: operands) ∧ commandRule c = some (planWrite plan change)
      ∧ code ≠ statusCode ∧ dataLength code = 0 := by
  cases c <;> cases h
  all_goals exact ⟨_, _, rfl, rfl, by decide, by decide⟩

theorem planWrite_of_no_plan {plan : Byte} (h : 1 < plan.toNat) (change : Option (Plan → Plan)) (s : State) :
    planWrite plan change s = refuse .badArg s := by
  simp [planWrite, planOf_of_gt h]

theorem planWrite_refused {s : State} {n : PlanName} {r : Result} (h : writeRefusal s n = some r) (change : Option (Plan → Plan)) :
    planWrite (planByte n) change s = refuse r s := by
  simp [planWrite, h]

/-- Settles O52: a plan write reads its plan operand and the plan's state before its values. -/
theorem planWritesAreRefusedByState : Obligations.PlanWritesAreRefusedByState := by
  intro c code plan s htarget hopen
  obtain ⟨operands, change, hc, hrule, hcode⟩ := commandRule_of_writeTarget htarget
  have hrefused {r : Result} (h : planWrite plan change (receiveFrame (code :: operands) (quiet s)) = refuse r _) :
      exec c s = .next (answered code r [] { s with out := Outputs.none }) :=
    (exec_of_commandRule hrule s).trans (commandStep_refused hc hopen hcode h)
  refine ⟨fun hplan => hrefused (planWrite_of_no_plan hplan change _), ?_⟩
  rintro n rfl
  refine ⟨fun hactive => ?_, fun hchecking => ?_, fun hready hpending => ?_⟩ <;> refine hrefused (planWrite_refused ?_ change)
  · show writeRefusal s n = _
    rw [writeRefusal, hactive]
  · show writeRefusal s n = _
    rw [writeRefusal, hchecking]
  · show writeRefusal s n = _
    rw [writeRefusal, hready]
    exact if_pos hpending

/-! ### SET SYNC -/

section
variable {mode edge : Byte} {limit : BitVec 16} {s : State}

theorem syncModeOf_of_le (h : mode.toNat ≤ 2) :
    syncModeOf mode = some (if mode = 0 then .off else if mode = 1 then .observe else .align) := by
  have htwo (h0 : mode ≠ 0) (h1 : mode ≠ 1) : mode = 2 := by bv_omega
  unfold syncModeOf
  split_ifs with h0 h1 h2
  · rfl
  · rfl
  · rfl
  · exact absurd (htwo h0 h1) h2

theorem syncModeOf_of_gt (h : 2 < mode.toNat) : syncModeOf mode = none := by
  unfold syncModeOf
  split_ifs with h0 h1 h2
  · simp [h0] at h
  · simp [h1] at h
  · simp [h2] at h
  · rfl

theorem syncEdgeOf_of_le (h : edge.toNat ≤ 1) : syncEdgeOf edge = some (if edge = 0 then .rising else .falling) := by
  have hone (h0 : edge ≠ 0) : edge = 1 := by bv_omega
  unfold syncEdgeOf
  split_ifs with h0 h1
  · rfl
  · rfl
  · exact absurd (hone h0) h1

theorem syncEdgeOf_of_gt (h : 1 < edge.toNat) : syncEdgeOf edge = none := by
  unfold syncEdgeOf
  split_ifs with h0 h1
  · simp [h0] at h
  · simp [h1] at h
  · rfl

theorem takeSetSync_taken (hmode : mode.toNat ≤ 2) (hedge : edge.toNat ≤ 1) (hlimit : limit.toNat ≤ 4095)
    (hg : s.sched.gate = .stopped) : takeSetSync mode edge limit s = ({ s with sync := { s.sync with
      mode := if mode = 0 then .off else if mode = 1 then .observe else .align
      edge := if edge = 0 then .rising else .falling
      limit := limit.toNat } }, replyOnly .done) := by
  simp only [takeSetSync, syncModeOf_of_le hmode, syncEdgeOf_of_le hedge]
  exact (if_neg (not_lt.mpr hlimit)).trans (if_neg (not_not.mpr hg))

theorem takeSetSync_wrongState (hmode : mode.toNat ≤ 2) (hedge : edge.toNat ≤ 1) (hlimit : limit.toNat ≤ 4095)
    (hg : s.sched.gate ≠ .stopped) : takeSetSync mode edge limit s = refuse .wrongState s := by
  simp only [takeSetSync, syncModeOf_of_le hmode, syncEdgeOf_of_le hedge]
  exact (if_neg (not_lt.mpr hlimit)).trans (if_pos hg)

theorem takeSetSync_badArg (h : ¬(mode.toNat ≤ 2 ∧ edge.toNat ≤ 1 ∧ limit.toNat ≤ 4095)) :
    takeSetSync mode edge limit s = refuse .badArg s := by
  by_cases hmode : mode.toNat ≤ 2
  · by_cases hedge : edge.toNat ≤ 1
    · have hlimit : 4095 < limit.toNat := not_le.mp fun hlimit => h ⟨hmode, hedge, hlimit⟩
      simp only [takeSetSync, syncModeOf_of_le hmode, syncEdgeOf_of_le hedge]
      exact if_pos hlimit
    · simp only [takeSetSync, syncModeOf_of_le hmode, syncEdgeOf_of_gt (not_le.mp hedge)]
  · simp only [takeSetSync, syncModeOf_of_gt (not_le.mp hmode)]

end

/-! ### SET DEVICE -/

/-- The part with new device settings, before the new limit is tested: the divider's count, and P0's queue where boot pass goes
off (R27, R98). -/
def deviceSet (d : Device) (s : State) : State :=
  let off := s.device.bootPass = true ∧ d.bootPass = false
  { s with
    device := d
    ticked := if d.divider = s.device.divider then s.ticked else 0
    ports := if off then { s.ports with p0 := emptied s.ports.p0 } else s.ports
    out := if off
      then { s.out with responses := s.out.responses.set .p0 (s.out.responses.p0 ++ queueAnswers .closed s.ports.p0) }
      else s.out }

theorem deviceSet_eq (d : Device) (s : State) :
    (if s.device.bootPass && !d.bootPass then clearQueue .closed .p0 (setDevice d s) else setDevice d s) = deviceSet d s := by
  by_cases hoff : s.device.bootPass = true ∧ d.bootPass = false
  · rw [if_pos (by simp [hoff]), clearQueue_eq, setDevice_eq, deviceSet, if_pos hoff, if_pos hoff]
    rfl
  · rw [if_neg (by simpa using hoff), setDevice_eq, deviceSet, if_neg hoff, if_neg hoff]

theorem overdue_iff {s : State} : overdue s = true ↔
    s.mem.state = .ready ∧ s.device.limit ≠ 0 ∧ ∃ e ∈ s.mem.issueList.head?, s.device.limit ≤ e.age := by
  rw [← Bool.not_eq_false, overdue_eq_false_iff]
  simp only [Classical.not_imp, not_forall, not_or, not_lt, Option.mem_def, ne_eq]
  exact and_congr_right fun _ => ⟨fun ⟨e, he, hz, hle⟩ => ⟨hz, e, he, hle⟩, fun ⟨hz, e, he, hle⟩ => ⟨e, he, hz, hle⟩⟩

theorem timeoutTest_of_not_overdue {s : State} (h : ¬ overdue s = true) : timeoutTest s = s := if_neg h

theorem timeoutTest_overdue {s : State} (h : overdue s = true) : timeoutTest s = failedFrom .timeout s :=
  (if_pos h).trans (memoryFailure_eq .timeout s)

section
variable {divider pulse boot : Byte} {limit : BitVec 16} {s : State}

theorem dividerOf_of_le (h : divider.toNat ≤ 8) : dividerOf divider = some (2 ^ divider.toNat) := if_pos h

theorem dividerOf_of_gt (h : 8 < divider.toNat) : dividerOf divider = none := if_neg (not_le.mpr h)

theorem flagOf_of_le (h : boot.toNat ≤ 1) : flagOf boot = some (decide (boot = 1)) := by
  have hone (h0 : boot ≠ 0) : boot = 1 := by bv_omega
  unfold flagOf
  split_ifs with h0 h1
  · simp [h0]
  · simp [h1]
  · exact absurd (hone h0) h1

/-- The settings that SET DEVICE names (Table 11-6). -/
def deviceOf (divider pulse boot : Byte) (limit : BitVec 16) : Device :=
  ⟨2 ^ divider.toNat, limit.toNat, pulse.toNat, decide (boot = 1)⟩

/-- The operands of SET DEVICE are in range (R185). -/
def DeviceInRange (divider pulse boot : Byte) : Prop := divider.toNat ≤ 8 ∧ pulse ≠ 0 ∧ boot.toNat ≤ 1

theorem takeSetDevice_stopped (h : DeviceInRange divider pulse boot) (hg : s.sched.gate = .stopped) :
    takeSetDevice divider limit pulse boot s = (applyDevice (deviceOf divider pulse boot limit) s, replyOnly .done) := by
  obtain ⟨hdivider, hpulse, hboot⟩ := h
  simp only [takeSetDevice, dividerOf_of_le hdivider, flagOf_of_le hboot]
  rw [if_neg hpulse, if_neg (not_not.mpr hg)]
  rfl

theorem takeSetDevice_wrongState (h : DeviceInRange divider pulse boot) (hg : s.sched.gate ≠ .stopped) :
    takeSetDevice divider limit pulse boot s = refuse .wrongState s := by
  obtain ⟨hdivider, hpulse, hboot⟩ := h
  simp only [takeSetDevice, dividerOf_of_le hdivider, flagOf_of_le hboot]
  rw [if_neg hpulse, if_pos hg]

theorem takeSetDevice_badArg (h : ¬DeviceInRange divider pulse boot) :
    takeSetDevice divider limit pulse boot s = refuse .badArg s := by
  by_cases hdivider : divider.toNat ≤ 8
  · by_cases hboot : boot.toNat ≤ 1
    · have hpulse : pulse = 0 := not_not.mp fun hpulse => h ⟨hdivider, hpulse, hboot⟩
      simp only [takeSetDevice, dividerOf_of_le hdivider, flagOf_of_le hboot]
      exact if_pos hpulse
    · simp only [takeSetDevice, dividerOf_of_le hdivider, flagOf_of_gt (not_le.mp hboot)]
  · simp only [takeSetDevice, dividerOf_of_gt (not_le.mp hdivider)]

theorem bootOff_iff (h : boot.toNat ≤ 1) : decide (boot = 1) = false ↔ boot = 0 := by
  rw [decide_eq_false_iff_not]
  bv_omega

theorem applyDevice_eq (d : Device) (s : State) :
    applyDevice d s = if d.limit = s.device.limit then deviceSet d s else timeoutTest (deviceSet d s) := by
  rw [← deviceSet_eq]
  rfl

/-- SET DEVICE in STOPPED where no new limit finds the oldest entry too old (R185). -/
theorem takeSetDevice_fresh (h : DeviceInRange divider pulse boot) (hg : s.sched.gate = .stopped)
    (hfresh : ¬(limit.toNat ≠ s.device.limit ∧ overdue (deviceSet (deviceOf divider pulse boot limit) s) = true)) :
    takeSetDevice divider limit pulse boot s = (deviceSet (deviceOf divider pulse boot limit) s, replyOnly .done) := by
  rw [takeSetDevice_stopped h hg, applyDevice_eq]
  split
  · rfl
  · rename_i hne
    rw [timeoutTest_of_not_overdue fun hover => hfresh ⟨hne, hover⟩]

/-- SET DEVICE whose new limit the oldest entry has reached fails the memory port (R141, R185). -/
theorem takeSetDevice_tooOld (h : DeviceInRange divider pulse boot) (hg : s.sched.gate = .stopped)
    (hne : limit.toNat ≠ s.device.limit) (hover : overdue (deviceSet (deviceOf divider pulse boot limit) s) = true) :
    takeSetDevice divider limit pulse boot s =
      (failedFrom .timeout (deviceSet (deviceOf divider pulse boot limit) s), replyOnly .done) := by
  have hlimit : (deviceOf divider pulse boot limit).limit ≠ s.device.limit := hne
  rw [takeSetDevice_stopped h hg, applyDevice_eq, if_neg hlimit, timeoutTest_overdue hover]

end

/-- `deviceSet` in the terms of the operands (R98, R185). -/
theorem deviceSet_deviceOf {divider pulse boot : Byte} (h : DeviceInRange divider pulse boot) (limit : BitVec 16) (s : State) :
    deviceSet (deviceOf divider pulse boot limit) (quiet s) = { s with
      device := ⟨2 ^ divider.toNat, limit.toNat, pulse.toNat, decide (boot = 1)⟩
      ticked := if 2 ^ divider.toNat = s.device.divider then s.ticked else 0
      ports := if s.device.bootPass = true ∧ boot = 0 then { s.ports with p0 := emptied s.ports.p0 } else s.ports
      out := if s.device.bootPass = true ∧ boot = 0
        then { Outputs.none with responses := Outputs.none.responses.set .p0 (queueAnswers .closed s.ports.p0) }
        else Outputs.none } := by
  obtain ⟨-, -, hboot⟩ := h
  have hoff : (s.device.bootPass = true ∧ decide (boot = 1) = false) = (s.device.bootPass = true ∧ boot = 0) :=
    congrArg _ (propext (bootOff_iff hboot))
  simp only [deviceSet, deviceOf, quiet, hoff]
  rfl

theorem failedFrom_receiveFrame (why : FailureKind) (frame : List Byte) {s : State} (h : s.link.resetting = false) :
    failedFrom why (receiveFrame frame s) = receiveFrame frame (failedFrom why s) := by
  have hlink : (receiveFrame frame s).link.resetting = false := h
  unfold failedFrom
  simp only [hlink, h]
  rfl

/-- Settles O51: SET DEVICE through `deviceSet`, with the new limit tested after it; SET SYNC replaces its three settings. -/
theorem settingsAreReplacedTogether : Obligations.SettingsAreReplacedTogether := by
  refine ⟨fun divider pulse boot limit s hopen => ?_, fun mode edge limit s hopen => ?_⟩
  · have hopen' := hopen
    obtain ⟨-, hresetting⟩ := hopen'
    have hover : (limit.toNat ≠ s.device.limit ∧ overdue (deviceSet (deviceOf divider pulse boot limit) s) = true) ↔
        limit.toNat ≠ s.device.limit ∧ s.mem.state = .ready ∧ limit ≠ 0 ∧ ∃ e ∈ s.mem.issueList.head?, limit.toNat ≤ e.age := by
      have hzero : limit.toNat ≠ 0 ↔ limit ≠ 0 := not_congr (BitVec.toNat_inj (y := 0))
      rw [overdue_iff, ← hzero]
      rfl
    have hset (hin : DeviceInRange divider pulse boot) := deviceSet_deviceOf hin limit s
    refine ⟨fun hin hg hfresh => ?_, fun hin hg hold => ?_, fun hin hg => ?_, fun hout => ?_⟩
    · rw [← hset hin]
      refine commandStep_answered (t := deviceSet (deviceOf divider pulse boot limit) (quiet s)) rfl hopen (by decide) ?_
      exact takeSetDevice_fresh (s := receiveFrame _ (quiet s)) hin hg (mt hover.mp hfresh)
    · obtain ⟨hne, hoverdue⟩ := hover.mpr hold
      rw [← hset hin]
      refine commandStep_answered (t := failedFrom .timeout (deviceSet (deviceOf divider pulse boot limit) (quiet s))) rfl hopen
        (by decide) ?_
      rw [← failedFrom_receiveFrame .timeout _ (s := deviceSet (deviceOf divider pulse boot limit) (quiet s)) hresetting]
      exact takeSetDevice_tooOld (s := receiveFrame _ (quiet s)) hin hg hne hoverdue
    · exact commandStep_refused rfl hopen (by decide) (takeSetDevice_wrongState hin hg)
    · exact commandStep_refused rfl hopen (by decide) (takeSetDevice_badArg hout)
  · refine ⟨fun ⟨hmode, hedge, hlimit⟩ hg => ?_, fun ⟨hmode, hedge, hlimit⟩ hg => ?_, fun hout => ?_⟩
    · exact commandStep_answered rfl hopen (by decide) (takeSetSync_taken hmode hedge hlimit hg)
    · exact commandStep_refused rfl hopen (by decide) (takeSetSync_wrongState hmode hedge hlimit hg)
    · exact commandStep_refused rfl hopen (by decide) (takeSetSync_badArg hout)

/-! ### RECOVER, the pulse and the ready wait -/

section
variable {s : State}

theorem takeRecover_busy (h : s.mem.state = .resetting) : takeRecover s = refuse .busy s := if_pos h

theorem takeRecover_wrongState (h : s.mem.state ≠ .resetting) (hg : s.sched.gate ≠ .faulted) :
    takeRecover s = refuse .wrongState s := by
  rw [takeRecover, if_neg h, if_pos hg]

theorem takeRecover_accepted (h : s.mem.state ≠ .resetting) (hg : s.sched.gate = .faulted) :
    takeRecover s = ({ s with mem := { s.mem with
      state := .resetting, memrst := true, recovery := .pulse s.device.pulse
      report := { s.mem.report with outcome := .inProgress } } }, replyOnly .accepted) := by
  rw [takeRecover, if_neg h, if_neg (not_not.mpr hg)]

/-- A recovery that succeeds (R41, R150). -/
theorem recoverySucceeds_eq (s : State) : recoverySucceeds s = stoppedFrom { s with
    mem := { s.mem with state := .ready, recovery := .idle, report := { s.mem.report with outcome := .succeeded } }
    events := eventsWith 0x008 s.events } := enterStopped_eq _

theorem endPulse_low (h : s.mem.recovery = .pulse 0) (hlow : s.mem.memrdy = false) : endPulse s = { s with mem := { s.mem with
    memrst := false, recovery := .wait (if s.device.limit = 0 then 65535 else s.device.limit) } } := by
  rw [endPulse, if_pos h]
  simp only [hlow, Bool.false_eq_true, if_false, readyWaitLimit, Config.unlimitedReadyWait]

theorem endPulse_high (h : s.mem.recovery = .pulse 0) (hhigh : s.mem.memrdy = true) : endPulse s = stoppedFrom { s with
    mem := { s.mem with
      memrst := false, state := .ready, recovery := .idle, report := { s.mem.report with outcome := .succeeded } }
    events := eventsWith 0x008 s.events } := by
  rw [endPulse, if_pos h]
  simp only [hhigh, if_true]
  exact recoverySucceeds_eq _

theorem memrdyRises_of_wait {n : Nat} (h : s.mem.recovery = .wait n) : memrdyRises s = recoverySucceeds s := by
  rw [memrdyRises, h]

theorem expireReadyWait_of_zero (h : s.mem.recovery = .wait 0) : expireReadyWait s = { s with
    mem := { s.mem with state := .failed, recovery := .idle, report := { s.mem.report with outcome := .failed } }
    events := eventsWith 0x008 s.events } := if_pos h

end

/-- Settles O59: RECOVER by its tests, the end of the pulse by the level of MEMRDY, and the two ends of the ready wait. -/
theorem recoveryRunsToItsEnd : Obligations.RecoveryRunsToItsEnd := by
  refine ⟨fun s hopen => ⟨fun h => ?_, fun h hg => ?_, fun h hg => ?_⟩,
    fun s hout h => ?_, fun s hout h => ?_, fun s memrdy hout h => ?_, fun s n hout h => ?_, fun s hout h => ?_⟩
  · exact commandStep_refused rfl hopen (by decide) (takeRecover_busy h)
  · exact commandStep_refused rfl hopen (by decide) (takeRecover_wrongState h hg)
  · exact commandStep_answered rfl hopen (by decide) (takeRecover_accepted h hg)
  · refine (onEvent_of_running hout).trans (congrArg _ ((if_pos h).trans ?_))
    exact endPulse_low (s := setMemrdy false (quiet s)) h rfl
  · refine (onEvent_of_running hout).trans (congrArg _ ((if_pos h).trans ?_))
    exact endPulse_high (s := setMemrdy true (quiet s)) h rfl
  · exact (onEvent_of_running hout).trans (congrArg _ (if_neg h))
  · refine (onEvent_of_running (s := setMemrdy true s) hout).trans (congrArg _ ?_)
    exact (memrdyRises_of_wait (s := quiet (setMemrdy true s)) h).trans (recoverySucceeds_eq _)
  · exact (onEvent_of_running hout).trans (congrArg _ (expireReadyWait_of_zero (s := quiet s) h))

/-! ### RESET GATE and its step -/

section
variable {s : State}

/-- The part with the drain of RESET GATE begun (R100, R189). -/
def resetBegun (s : State) : State :=
  { s with
    ports := s.ports.set .p0 (emptied s.ports.p0)
    out := { s.out with responses := s.out.responses.set .p0 (s.out.responses.p0 ++ queueAnswers .closed s.ports.p0) }
    link := { s.link with resetting := true, resetDue := false } }

theorem resetBegun_eq (hdue : s.link.resetDue = false) : resetBegun s = { s with
    ports := s.ports.set .p0 (emptied s.ports.p0)
    out := { s.out with responses := s.out.responses.set .p0 (s.out.responses.p0 ++ queueAnswers .closed s.ports.p0) }
    link := { s.link with resetting := true } } := by
  rw [resetBegun, ← hdue]

theorem beginReset_eq (s : State) : beginReset s = resetBegun s := by
  rw [beginReset, clearQueue_eq]
  rfl

theorem takeResetGate_stopped (hg : s.sched.gate = .stopped) : takeResetGate s = (resetBegun s, replyOnly .accepted) := by
  rw [takeResetGate, hg, ← beginReset_eq]

theorem takeResetGate_armed (hg : s.sched.gate = .armed) :
    takeResetGate s = (resetBegun (stoppedFrom s), replyOnly .accepted) := by
  rw [takeResetGate, hg, ← beginReset_eq, ← enterStopped_eq]

theorem takeResetGate_wrongState (hg : s.sched.gate = .running ∨ s.sched.gate = .halting ∨ s.sched.gate = .faulted) :
    takeResetGate s = refuse .wrongState s := by
  rcases hg with hg | hg | hg <;> rw [takeResetGate, hg]

end

/-- The reset step in STOPPED, where the schedule controller's lines are low and nothing is pending (R48, R190). -/
theorem resetStep_eq {s : State} (hgate : s.sched.gate = .stopped) (hswap : s.sched.pendingSwap = none) (hlaw : ScheduleLaw s) :
    resetStep s = { s with
      device := ⟨1, 4096, 16, true⟩
      ticked := if s.device.divider = 1 then s.ticked else 0
      sync := { s.sync with mode := .off, edge := .rising, limit := 0, capture := ⟨false, .none, none⟩ }
      events := ⟨0, 0, false, ⟨⟨none, 0⟩, ⟨none, 0⟩, ⟨none, 0⟩, ⟨none, 0⟩⟩⟩
      mem := { s.mem with report := ⟨none, none, 0, 0, .none⟩ }
      sched := { s.sched with window := 0, offset := 0, frame := 0 }
      plans := ⟨{ s.plans.a with state := .edit, report := .none }, { s.plans.b with state := .edit, report := .none }⟩
      check := none
      lastWinner := .retire
      link := { s.link with resetting := false, resetDue := false, lastResult := .done, lastCode := 0x26 } } := by
  have hwalk : walking s = false := by simp [walking, hgate]
  obtain ⟨-, hrest, hhalt, harm⟩ := hlaw
  obtain ⟨hopen, hframe, howed⟩ := hrest hwalk
  have hnohalt : s.sched.pendingHalt = false := Bool.eq_false_of_not_eq_true fun h => absurd (hhalt.mp h) (by simp [hgate])
  have hnoarm : s.sched.startOnSync = false := Bool.eq_false_of_not_eq_true fun h => absurd (harm.mp h) (by simp [hgate])
  have hsched : ({ s.sched with window := 0, offset := 0, frame := 0 } : Schedule) = Schedule.initial := by
    simp only [Schedule.initial, hgate, hswap, hopen, hframe, howed, hnohalt, hnoarm]
  have hdivider : (if Device.initial.divider = s.device.divider then s.ticked else 0) = if s.device.divider = 1 then s.ticked else 0 := by
    exact if_congr eq_comm rfl rfl
  rw [resetStep, setDevice_eq, hsched, hdivider]
  rfl

/-- Settles O60: RESET GATE by the gate state, and the reset step, which is due in STOPPED alone. -/
theorem resetGateRunsToItsEnd : Obligations.ResetGateRunsToItsEnd := by
  refine ⟨fun s hopen hdue => ⟨fun hg => ?_, fun hg => ?_, fun hg => ?_⟩, fun s hout hlaw hdue => ?_⟩
  · have hstep := commandStep_answered (t := resetBegun (quiet s)) rfl hopen (by decide) (takeResetGate_stopped hg)
    rw [resetBegun_eq (s := quiet s) hdue] at hstep
    exact hstep
  · have hstep := commandStep_answered (t := resetBegun (stoppedFrom (quiet s))) rfl hopen (by decide) (takeResetGate_armed hg)
    rw [resetBegun_eq (s := stoppedFrom (quiet s)) hdue] at hstep
    exact hstep
  · exact commandStep_refused rfl hopen (by decide) (takeResetGate_wrongState hg)
  · obtain ⟨-, -, hgate, hplan, hsched, -⟩ := hlaw
    obtain ⟨hresetting, -⟩ := (gateLaw_iff.mp hgate).drained_of_due hdue
    have hstopped := (gateLaw_iff.mp hgate).stopped_of_resetting hresetting
    have hswap : s.sched.pendingSwap = none := Option.eq_none_iff_forall_ne_some.mpr fun n hn => by
      have hwalk := ((planLaw_iff.mp hplan).target n hn).2
      simp [walking, hstopped] at hwalk
    have hstep : takeResetStep (quiet s) = resetStep (quiet s) := if_pos hdue
    rw [resetStep_eq (s := quiet s) hstopped hswap hsched] at hstep
    exact (onEvent_of_running hout).trans (congrArg _ hstep)

end Sys2Proof.Machine
end

section
/-! SUPPORT. The walk's share of a tick, a hold limit that expires, and SYNC edges out of mode ALIGN (R29, R30, R84, R154 to
R156). -/

namespace Sys2Proof.Machine

-- One proof at a time, as in the sections before.
set_option Elab.async false

/-! ### The walk's share of a tick -/

/-- The part with the walk's share taken and the FRAME pulse ended (R29, R44). -/
def walkTaken (s : State) : State := { s with sched := { s.sched with frameLine := false, walkOwed := false } }

section
variable {s : State} (hwalk : walking s = true)
include hwalk

theorem takeWalkTick_within (h : ¬ s.sched.offset + 1 = (currentWindow s).length) :
    takeWalkTick s = { walkTaken s with sched := { (walkTaken s).sched with offset := s.sched.offset + 1 } } := by
  have hwalking : ¬((!walking (walkTaken s)) = true) := by
    rw [show walking (walkTaken s) = true from hwalk]
    decide
  have hdue : ¬(expiryDue (walkTaken s) = true) := by
    rw [expiryDue, Bool.and_eq_true, beq_iff_eq]
    exact fun ⟨_, hlast⟩ => h hlast
  exact (if_neg hwalking).trans (if_neg hdue)

/-- At the last offset of its window the window expires (R29). -/
theorem takeWalkTick_last (h : s.sched.offset + 1 = (currentWindow s).length) : takeWalkTick s = expireWindow (walkTaken s) := by
  have hwalking : ¬((!walking (walkTaken s)) = true) := by
    rw [show walking (walkTaken s) = true from hwalk]
    decide
  have hdue : expiryDue (walkTaken s) = true := by
    rw [expiryDue, Bool.and_eq_true, beq_iff_eq]
    exact ⟨hwalk, h⟩
  exact (if_neg hwalking).trans (if_pos hdue)

end

theorem expireWindow_next {s : State} (h : s.sched.window + 1 < (governing s).windowCount) :
    expireWindow s = { s with sched := { s.sched with
      window := s.sched.window + 1, offset := 0, openLines := (windowAt (governing s) (s.sched.window + 1)).openSet } } :=
  if_pos h

theorem expireWindow_boundary {s : State} (h : ¬ s.sched.window + 1 < (governing s).windowCount) :
    expireWindow s = boundaryFrom s := (if_neg h).trans (frameBoundary_eq s)

theorem takeOwedWalk_owed {s : State} (h : s.sched.walkOwed = true) : takeOwedWalk s = takeWalkTick s := if_pos h

theorem takeOwedWalk_not_owed {s : State} (h : s.sched.walkOwed = false) : takeOwedWalk s = s := by
  simp [takeOwedWalk, h]

/-- Settles O34: what is owed is one tick of the walk, by whether it is the last of its window and the window the last. -/
theorem windowExpiryMovesTheWalk : Obligations.WindowExpiryMovesTheWalk := by
  refine ⟨fun s hout hwalk howed => ?_, fun s hout howed => ?_⟩
  · have hstep {t : State} (h : takeWalkTick (quiet s) = t) : exec .windowExpiry s = .next t :=
      (onEvent_of_running hout).trans (congrArg _ ((takeOwedWalk_owed (s := quiet s) howed).trans h))
    refine ⟨fun hlast hnext => hstep ?_, fun hlast hcount => hstep ?_, fun hwithin => hstep ?_⟩
    · exact (takeWalkTick_last (s := quiet s) hwalk hlast).trans (expireWindow_next (s := walkTaken (quiet s)) hnext)
    · have hend : ¬ s.sched.window + 1 < (governing s).windowCount := by omega
      exact (takeWalkTick_last (s := quiet s) hwalk hlast).trans (expireWindow_boundary (s := walkTaken (quiet s)) hend)
    · exact takeWalkTick_within (s := quiet s) hwalk hwithin
  · exact (onEvent_of_running hout).trans (congrArg _ (takeOwedWalk_not_owed (s := quiet s) howed))

/-! ### Hold limits -/

/-- The first request whose deadline is 0 is the one that expires, from whatever place it stands at (R84). -/
theorem find_expired {before after : List Held} {h : Held} (hbefore : ∀ x ∈ before, x.deadline ≠ some 0)
    (hzero : h.deadline = some 0) : (before ++ h :: after).find? expired = some h
      ∧ (before ++ h :: after).eraseP expired = before ++ after := by
  have hnot : ∀ x ∈ before, ¬ expired x = true := by simpa [expired] using hbefore
  have hexpired : expired h = true := by simp [expired, hzero]
  have hnone : before.find? expired = none := List.find?_eq_none.mpr hnot
  exact ⟨by rw [List.find?_append, hnone, Option.none_or, List.find?_cons_of_pos hexpired],
    by rw [List.eraseP_append_right _ hnot, List.eraseP_cons_of_pos hexpired]⟩

/-- Settles O35: the first request that is due leaves the queue, answered LATE and recorded. -/
theorem holdLimitExpiryAnswersLate : Obligations.HoldLimitExpiryAnswersLate := by
  intro p s before after h hout hqueue hbefore hzero
  obtain ⟨hfind, herase⟩ := find_expired (after := after) hbefore hzero
  rw [← hqueue] at hfind herase
  have hexpire := expireOne_eq (s := quiet s) hfind
  have hnone : Outputs.none.responses.get p = [] := by cases p <;> rfl
  have hgiven : (quiet s).out.responses.get p ++ [refusalTo .late h.tag] = [refusalTo .late h.tag] := by
    rw [quiet, hnone, List.nil_append]
  rw [hgiven] at hexpire
  rw [← herase]
  exact (onEvent_of_running hout).trans (congrArg _ hexpire)

/-! ### SYNC edges -/

theorem exec_syncEdge {s : State} (hout : s.inReset = false) (e : SyncEdge) :
    exec (.syncEdge e) s = .next (seenEdge e { s with
      sync := { s.sync with level := decide (e = .rising) }, out := Outputs.none }) := by
  rw [exec, execSyncEdge, setSyncLevel_eq]
  exact onEvent_of_running (s := { s with sync := { s.sync with level := decide (e = .rising) } }) hout

/-- A selected edge overwrites the record and raises SYNC_CAPTURED before its outcome is acted on (R155, R156). -/
theorem seenEdge_selected {s : State} {e : SyncEdge} (hmode : s.sync.mode ≠ .off) (hedge : s.sync.edge = e) :
    seenEdge e s = actOnOutcome (edgeOutcome s) { s with
      sync := { s.sync with capture := captureOf s }, events := eventsWith 0x080 s.events } := if_pos ⟨hmode, hedge⟩

theorem seenEdge_unseen {s : State} {e : SyncEdge} (h : s.sync.mode = .off ∨ s.sync.edge ≠ e) : seenEdge e s = s :=
  if_neg fun ⟨hmode, hedge⟩ => h.elim hmode fun hne => hne hedge

/-- A selected edge with its outcome and position (R155, R156). -/
theorem exec_syncEdge_selected {s : State} {e : SyncEdge} {o : SyncOutcome} {position : Option CapturePosition}
    (hout : s.inReset = false) (hmode : s.sync.mode ≠ .off) (hedge : s.sync.edge = e) (ho : edgeOutcome s = o)
    (hposition : (captureOf s).position = position) :
    exec (.syncEdge e) s = .next (actOnOutcome o { s with
      sync := { s.sync with level := decide (e = .rising), capture := ⟨true, o, position⟩ }
      events := eventsWith 0x080 s.events
      out := Outputs.none }) := by
  subst ho hposition
  exact (exec_syncEdge hout e).trans (congrArg _ (seenEdge_selected
    (s := { s with sync := { s.sync with level := decide (e = .rising) }, out := Outputs.none }) hmode hedge))

theorem captureOf_still {s : State} (h : walking s = false) : (captureOf s).position = none := by
  simp [captureOf, h]

theorem edgeOutcome_armed {s : State} (hg : s.sched.gate = .armed) : edgeOutcome s = .started := by rw [edgeOutcome, hg]

theorem edgeOutcome_atRest {s : State} (hg : s.sched.gate = .stopped ∨ s.sched.gate = .faulted) : edgeOutcome s = .observed := by
  rcases hg with hg | hg <;> rw [edgeOutcome, hg]

theorem edgeOutcome_observe {s : State} (hg : s.sched.gate = .running ∨ s.sched.gate = .halting) (hmode : s.sync.mode = .observe) :
    edgeOutcome s = .observed := by
  rcases hg with hg | hg <;> simp [edgeOutcome, hg, hmode]

/-- A window with an offset in it is one of the 32 records. -/
theorem window_lt_of_offset {p : Plan} {w o : Nat} (h : o < (windowAt p w).length) : w < 32 := by
  by_contra hge
  have hnone : windowAt p w = Window.unwritten := List.getD_eq_default _ _ (by simpa using hge)
  rw [hnone] at h
  exact absurd h (Nat.not_lt_zero o)

/-- T, with the position in the active plan (R155). -/
theorem frameTicks_of_schedule {s : State} (hlaw : ScheduleLaw s) (hwalk : walking s = true) :
    frameTicks s = ((windowsBelow (governing s) s.sched.window).map (·.length)).sum + s.sched.offset := by
  obtain ⟨hposition, -⟩ := hlaw
  obtain ⟨hwindow, hoffset, -⟩ := hposition hwalk
  rw [frameTicks, totalLength, countedWindows, List.take_take, min_eq_left hwindow.le,
    windowsBelow_eq_take _ (window_lt_of_offset hoffset).le]

/-- Settles O40: a selected edge by the gate state, and an edge that is not selected. -/
theorem selectedEdgeIsCaptured : Obligations.SelectedEdgeIsCaptured := by
  intro e s hout
  refine ⟨fun hmode hedge hg => ?_, fun hmode hedge hg => ?_, fun hmode hedge hg hlaw => ?_, fun hunseen => ?_⟩
  · have hstill : walking s = false := by simp [walking, hg]
    rw [exec_syncEdge_selected hout hmode hedge (edgeOutcome_armed hg) (captureOf_still hstill), actOnOutcome, enterRunning_eq]
  · have hstill : walking s = false := by rcases hg with hg | hg <;> simp [walking, hg]
    exact exec_syncEdge_selected hout hmode hedge (edgeOutcome_atRest hg) (captureOf_still hstill)
  · have hwalk : walking s = true := by rcases hg with hg | hg <;> simp [walking, hg]
    have hposition : (captureOf s).position = some (capturePosition s) := if_pos hwalk
    rw [← frameTicks_of_schedule hlaw hwalk]
    exact exec_syncEdge_selected hout (by simp [hmode]) hedge (edgeOutcome_observe hg hmode) hposition
  · exact (exec_syncEdge hout e).trans (congrArg _ (seenEdge_unseen hunseen))

end Sys2Proof.Machine
end

section
/-! SUPPORT. The grant of RETIRE and the grants that cannot be made (R111 to R113, R124 to R126), and what a memory response
makes of the oldest issue (R131 to R134). -/

namespace Sys2Proof.Machine

-- One proof at a time, as in the sections before.
set_option Elab.async false

/-! ### The retire candidate -/

/-- The tests of R111 on an entry and its place. -/
def retireTest (s : State) (x : PostedEntry × Nat) : Bool :=
  isWaiting x.1 && !olderWaiting (s.posted.take x.2) x.1 && retireEligible s x.1

theorem retireMayIssue_iff (s : State) (e : PostedEntry) (i : Nat) :
    RetireMayIssue s e i ↔ issueRoom s = true ∧ s.posted[i]? = some e ∧ retireTest s (e, i) = true := by
  have holder : (!olderWaiting (s.posted.take i) e) = true ↔ ∀ o ∈ s.posted.take i, o.port = e.port → o.state ≠ .waiting := by
    simp [olderWaiting, isWaiting]
  simp only [retireTest, Bool.and_eq_true, holder, retireEligible_iff, issueRoom_iff, isWaiting, beq_iff_eq]
  unfold RetireMayIssue
  tauto

/-- The candidate is the oldest entry that meets R111. -/
theorem retireCandidate_of_oldest {s : State} {older younger : List PostedEntry} {e : PostedEntry}
    (hposted : s.posted = older ++ e :: younger) (hmay : RetireMayIssue s e older.length)
    (holdest : ∀ i < older.length, ∀ o ∈ s.posted[i]?, ¬ RetireMayIssue s o i) : retireCandidate s = some (e, older.length) := by
  obtain ⟨hroom, -, htest⟩ := (retireMayIssue_iff s e _).mp hmay
  have hplaces : s.posted.zipIdx = older.zipIdx ++ (e, older.length) :: younger.zipIdx (older.length + 1) := by
    simp [hposted, List.zipIdx_append]
  have hbefore : ∀ x ∈ older.zipIdx, (!retireTest s x) = true := by
    rintro ⟨o, i⟩ hx
    have hplace : older[i]? = some o := List.mk_mem_zipIdx_iff_getElem?.mp hx
    obtain ⟨hi, -⟩ := List.getElem?_eq_some_iff.mp hplace
    have hposted : s.posted[i]? = some o := by rw [hposted, List.getElem?_append_left hi, hplace]
    rw [Bool.not_eq_true', ← Bool.not_eq_true]
    exact fun ht => holdest i hi o hposted ((retireMayIssue_iff s o i).mpr ⟨hroom, hposted, ht⟩)
  rw [retireCandidate, if_pos hroom]
  exact List.find?_eq_some_iff_append.mpr ⟨htest, _, _, hplaces, hbefore⟩

theorem grantRetire_of_candidate {s : State} {older younger : List PostedEntry} {e : PostedEntry}
    (hposted : s.posted = older ++ e :: younger) (hcandidate : retireCandidate s = some (e, older.length)) (t : IssueTag) :
    grantRetire t s = { s with
      posted := older ++ { e with state := .inFlight t } :: younger
      lastWinner := .retire
      mem := { s.mem with issueList := s.mem.issueList ++ [⟨t, .posted, .write, e.addr, e.beats, 0, false⟩] }
      out := { s.out with issues := s.out.issues ++ [⟨t, .write, e.addr, e.beats, e.data⟩] } } := by
  have hset : s.posted.set older.length { e with state := .inFlight t } = older ++ { e with state := .inFlight t } :: younger := by
    simp [hposted]
  rw [grantRetire, hcandidate]
  simp only [hset]
  rfl

/-! ### No grant -/

theorem decideGrant_of_channel (s : State) : decideGrant false s = s := by simp [decideGrant, canIssue]

theorem decideGrant_of_no_winner {s : State} (h : winner s = none) (memReady : Bool) : decideGrant memReady s = s := by
  simp [decideGrant, h]

theorem winner_eq_none {s : State} (hheld : HeldLaw s) (hrange : RangeLaw s) (h : ∀ c, ¬ MayIssue s c) : winner s = none :=
  List.find?_eq_none.mpr fun c _ => (eligible_iff hheld hrange c).not.mpr (h c)

/-- Settles O46: RETIRE wins for the oldest entry that may retire, and with no winner nothing is granted. -/
theorem grantRetiresOrWaits : Obligations.GrantRetiresOrWaits := by
  refine ⟨fun s older younger e t hlaw hout hready hwins hposted hmay holdest htag => ?_, fun s hlaw hout => ?_⟩
  · obtain ⟨-, -, -, -, -, hheld, -, hrange, -, -⟩ := hlaw
    obtain ⟨hroom, -⟩ := (retireMayIssue_iff s e _).mp hmay
    have hcan : canIssue (quiet s) true = true := by
      have hroom' : issueRoom (quiet s) = true := hroom
      simp [canIssue, hready, hroom']
    have hwinner : winner (quiet s) = some .retire := winner_of_wins (s := quiet s) hheld hrange hwins
    have hgrant : decideGrant true (quiet s) = grantRetire t (quiet s) :=
      decideGrant_of_winner hcan hwinner (freeTag_of_lowestFree htag)
    have hcandidate : retireCandidate (quiet s) = some (e, older.length) :=
      retireCandidate_of_oldest (s := quiet s) hposted hmay holdest
    exact (onEvent_of_running hout).trans (congrArg _ (hgrant.trans (grantRetire_of_candidate (s := quiet s) hposted hcandidate t)))
  · obtain ⟨-, -, -, -, -, hheld, -, hrange, -, -⟩ := hlaw
    have hstep {memReady : Bool} (h : decideGrant memReady (quiet s) = quiet s) : exec (.grant memReady) s = .next (quiet s) :=
      (onEvent_of_running hout).trans (congrArg _ h)
    refine ⟨hstep (decideGrant_of_channel _), fun hport => hstep (decideGrant_of_not_ready (s := quiet s) _ hport), fun hnone => hstep ?_⟩
    exact decideGrant_of_no_winner (winner_eq_none (s := quiet s) hheld hrange hnone) _

/-! ### Completions -/

theorem completesOk_iff (e : IssueEntry) (m : MemResponse) :
    completesOk e m = true ↔ m.ok = true ∧ (e.kind = .read → e.beats ≤ m.data.length) := by
  simp [completesOk, imp_iff_not_or]

/-- The data of an answer to a READ that completes, its beats; none for a WRITE (R132). -/
theorem completionData_eq (e : IssueEntry) (m : MemResponse) :
    completionData e m = if e.kind = .read then some (m.data.take e.beats) else none := by
  unfold completionData
  cases e.kind <;> rfl

section
variable {s : State} {e : IssueEntry} {m : MemResponse}

theorem answer_eq (p : Port) (tag : Tag) (st : Status) (data : Option (List BeatData)) (s : State) :
    answer p tag st data s = { s with
      ports := s.ports.set p { s.ports.get p with tags := tagsWithout (s.ports.get p).tags [tag] }
      out := { s.out with responses := s.out.responses.set p (s.out.responses.get p ++ [⟨tag, st, false, data⟩]) } } := by
  rw [tagsWithout_singleton]
  rfl

theorem completeEntry_orphan {p : Port} {tag : Tag} (hsource : e.source = .port p tag) (h : e.orphan = true) :
    completeEntry e m s = s := by
  simp [completeEntry, hsource, completePort, h]

theorem completeEntry_okay {p : Port} {tag : Tag} (hsource : e.source = .port p tag) (h : e.orphan = false)
    (hok : completesOk e m = true) : completeEntry e m s = answer p tag .okay (completionData e m) s := by
  simp [completeEntry, hsource, completePort, h, hok]

theorem completeEntry_fault {p : Port} {tag : Tag} (hsource : e.source = .port p tag) (h : e.orphan = false)
    (hok : ¬ completesOk e m = true) :
    completeEntry e m s = handFault p (faultNow s .memError tag e.kind e.addr e.beats) (answer p tag .memFault none s) := by
  simp [completeEntry, hsource, completePort, h, hok]

theorem completeEntry_posted {o : PostedEntry} (hsource : e.source = .posted)
    (hfind : s.posted.find? (inFlightAs e.issueTag) = some o) : completeEntry e m s =
      if completesOk e m = true then { s with posted := s.posted.eraseP (inFlightAs e.issueTag) }
      else loseEntry .postedFailed { s with posted := s.posted.eraseP (inFlightAs e.issueTag) } o := by
  simp [completeEntry, hsource, completePosted, hfind]

end

/-- The entry under an issue tag, with none before it, is the one a completion frees. -/
theorem find_inFlightAs {before after : List PostedEntry} {o : PostedEntry} {t : IssueTag} (ho : o.state = .inFlight t)
    (hbefore : ∀ x ∈ before, x.state ≠ .inFlight t) : (before ++ o :: after).find? (inFlightAs t) = some o
      ∧ (before ++ o :: after).eraseP (inFlightAs t) = before ++ after := by
  have hnot : ∀ x ∈ before, ¬ inFlightAs t x = true := by simpa [inFlightAs] using hbefore
  have hthis : inFlightAs t o = true := by simp [inFlightAs, ho]
  have hnone : before.find? (inFlightAs t) = none := List.find?_eq_none.mpr hnot
  exact ⟨by rw [List.find?_append, hnone, Option.none_or, List.find?_cons_of_pos hthis],
    by rw [List.eraseP_append_right _ hnot, List.eraseP_cons_of_pos hthis]⟩

theorem takeResponse_of_not_ready {s : State} {m : MemResponse} (h : s.mem.state ≠ .ready) : takeResponse m s = s := by
  unfold takeResponse
  split
  · rfl
  · rfl
  · rename_i hready
    exact absurd hready h

/-- The part after the completion fails exactly when the entry that is now the oldest has reached the limit (R141, R143). -/
theorem exec_memoryResponse {s t : State} {e : IssueEntry} {rest : List IssueEntry} {m : MemResponse} (hout : s.inReset = false)
    (hready : s.mem.state = .ready) (hlist : s.mem.issueList = e :: rest) (htag : m.tag = e.issueTag)
    (ht : completeEntry e m (withIssues rest (quiet s)) = t) (hstate : t.mem.state = .ready) (hrest : t.mem.issueList = rest)
    (hdevice : t.device = s.device) :
    (¬(s.device.limit ≠ 0 ∧ ∃ x ∈ rest.head?, s.device.limit ≤ x.age) → exec (.memoryResponse m) s = .next t)
      ∧ (s.device.limit ≠ 0 ∧ (∃ x ∈ rest.head?, s.device.limit ≤ x.age) →
        exec (.memoryResponse m) s = .next (failedFrom .timeout t)) := by
  have hstep : exec (.memoryResponse m) s = .next (timeoutTest t) := by
    rw [← ht]
    exact (onEvent_of_running hout).trans (congrArg _ (takeResponse_of_oldest (s := quiet s) hready hlist htag))
  have hlate : overdue t = true ↔ s.device.limit ≠ 0 ∧ ∃ x ∈ rest.head?, s.device.limit ≤ x.age := by
    rw [overdue_iff, hrest, hdevice]
    exact and_iff_right hstate
  rw [← hlate, hstep]
  exact ⟨fun h => congrArg _ (timeoutTest_of_not_overdue h), fun h => congrArg _ (timeoutTest_overdue h)⟩

/-- Settles O39: the oldest entry by its source, its flag and the answer, and then the test of the next. -/
theorem responsesCompleteTheOldestEntry : Obligations.ResponsesCompleteTheOldestEntry := by
  refine ⟨fun s e rest m hout hready hlist htag => ?_, fun s m hout hport => ?_⟩
  · have hstep {t : State} := exec_memoryResponse (t := t) hout hready hlist htag
    have hnone (p : Port) : Outputs.none.responses.get p = [] := by cases p <;> rfl
    refine ⟨fun p tag hsource horphan hfine => ?_, fun p tag hsource horphan hfine => ?_, fun p tag hsource horphan => ?_,
      fun before o after hsource hkind hposted ho hbefore => ?_⟩
    · refine hstep ?_ hready rfl rfl
      rw [completeEntry_okay hsource horphan ((completesOk_iff e m).mpr hfine), completionData_eq, answer_eq]
      simp only [withIssues, quiet, hnone, List.nil_append]
    · refine hstep ?_ hready rfl rfl
      rw [completeEntry_fault hsource horphan ((completesOk_iff e m).not.mpr hfine), handFault_eq_faultsTaken, answer_eq]
      simp only [withIssues, quiet, hnone, List.nil_append]
      rfl
    · exact hstep (completeEntry_orphan hsource horphan) hready rfl rfl
    · obtain ⟨hfind, herase⟩ := find_inFlightAs (after := after) ho hbefore
      have hok : completesOk e m = true ↔ m.ok = true := by simp [completesOk_iff, hkind]
      rw [← hposted] at hfind herase
      refine hstep ?_ hready rfl rfl
      rw [completeEntry_posted (s := withIssues rest (quiet s)) hsource hfind, loseEntry_eq, ← herase, ← eventsWith_faultsTaken]
      by_cases h : m.ok = true
      · rw [if_pos (hok.mpr h), if_pos h]
        rfl
      · rw [if_neg (hok.not.mpr h), if_neg h]
        rfl
  · exact (onEvent_of_running hout).trans (congrArg _ (takeResponse_of_not_ready (s := quiet s) hport))

end Sys2Proof.Machine
end

section
/-! SUPPORT. The data of the reading commands field by field (R182, R187, Tables 11-4, 11-5 and 11-7): a field at its offset is
read off the bytes that the layout puts there, and the ranges of the state's fields leave none cut short. -/

namespace Sys2Proof.Machine

-- One proof at a time, as in the sections before.
set_option Elab.async false

/-! ### A field at its offset -/

theorem foldl_beBytes (n v acc : Nat) :
    (beBytes n v).foldl (fun a (b : Byte) => 256 * a + b.toNat) acc = 256 ^ n * acc + v % 256 ^ n := by
  induction n generalizing acc with
  | zero => simp [beBytes, Nat.mod_one]
  | succ n ih =>
    have hmod : v % 256 ^ (n + 1) = v % 256 ^ n + 256 ^ n * (v / 256 ^ n % 256) := Nat.mod_mul
    have hbyte : (BitVec.ofNat 8 (v / 256 ^ n)).toNat = v / 256 ^ n % 256 := BitVec.toNat_ofNat _ _
    rw [beBytes, List.foldl_cons, ih, hbyte, hmod]
    ring

/-- A field whose bytes spell a number that they can hold reads that number (R182). -/
theorem fieldAt_number {d : List Byte} {offset bytes v : Nat} (h : (d.drop offset).take bytes = beBytes bytes v)
    (hv : v < 256 ^ bytes) : fieldAt d offset bytes = v := by
  rw [fieldAt, h, foldl_beBytes, Nat.mod_eq_of_lt hv]
  simp

theorem fieldAt_byte {d : List Byte} {offset : Nat} {b : Byte} (h : (d.drop offset).take 1 = [b]) :
    fieldAt d offset 1 = b.toNat := by
  rw [fieldAt, h]
  simp

theorem countByte_toNat {k : Nat} (hk : k < 256) : (countByte k).toNat = k := by
  rw [countByte, BitVec.toNat_ofNat, Nat.mod_eq_of_lt hk]

theorem fieldAt_count {d : List Byte} {offset k : Nat} (h : (d.drop offset).take 1 = [countByte k]) (hk : k < 256) :
    fieldAt d offset 1 = k := by
  rw [fieldAt_byte h, countByte_toNat hk]

/-! ### Codes -/

theorem gateCode_toNat (g : GateState) : (gateCode g).toNat = match g with
    | .stopped => 0 | .armed => 1 | .running => 2 | .halting => 3 | .faulted => 4 := by
  cases g <;> rfl

theorem memStateCode_toNat (m : MemState) : (memStateCode m).toNat = match m with
    | .ready => 0 | .failed => 1 | .resetting => 2 := by
  cases m <;> rfl

theorem planCode_toNat (o : Option PlanName) : (planCode o).toNat = match o with
    | some .a => 0 | some .b => 1 | none => 255 := by
  rcases o with _ | _ | _ <;> rfl

theorem planField_toNat (o : Option PlanName) : (planField o).toNat = if o = some .b then 1 else 0 := by
  rcases o with _ | _ | _ <;> rfl

theorem planStateCode_toNat (p : PlanState) : (planStateCode p).toNat = match p with
    | .edit => 0 | .checking => 1 | .ready => 2 | .active => 3 := by
  cases p <;> rfl

theorem resultCode_toNat (r : Result) : (resultCode r).toNat = match r with
    | .done => 0x00 | .accepted => 0x01 | .busy => 0x02 | .wrongState => 0x03 | .badArg => 0x04
    | .planActive => 0x05 | .notReady => 0x06 | .badCrc => 0x07 | .unknown => 0x08 | .truncated => 0x09 := by
  cases r <;> rfl

theorem kindCode_toNat (k : Kind) : (kindCode k).toNat = if k = .read then 0 else 1 := by
  cases k <;> rfl

theorem faultReasonCode_toNat (r : FaultReason) : (faultReasonCode r).toNat = match r with
    | .misaligned => 1 | .boundary => 2 | .tagInUse => 3 | .noRegion => 4 | .spans => 5 | .rights => 6
    | .noWindow => 7 | .tooLong => 8 | .late => 9 | .memError => 10 | .memAbandoned => 11 | .postedFailed => 12
    | .postedAbandoned => 13 := by
  cases r <;> rfl

theorem syncOutcomeCode_toNat (o : SyncOutcome) : (syncOutcomeCode o).toNat = match o with
    | .none => 0 | .started => 1 | .observed => 2 | .inStep => 3 | .earlyCut => 4 | .lateRewind => 5 | .outOfLimit => 6 := by
  cases o <;> rfl

theorem failureCode_toNat (r : Option FailureKind) : (failureCode r).toNat = match r with
    | none => 0 | some .timeout => 1 | some .order => 2 := by
  rcases r with _ | _ | _ <;> rfl

theorem recoveryOutcomeCode_toNat (o : RecoveryOutcome) : (recoveryOutcomeCode o).toNat = match o with
    | .none => 0 | .inProgress => 1 | .succeeded => 2 | .failed => 3 := by
  cases o <;> rfl

theorem flagCode_toNat (b : Bool) : (flagCode b).toNat = b.toNat := by cases b <;> rfl

theorem flagBits_four (a b c d : Bool) :
    (flagBits [a, b, c, d]).toNat = a.toNat + 2 * b.toNat + 4 * c.toNat + 8 * d.toNat := by
  cases a <;> cases b <;> cases c <;> cases d <;> rfl

theorem flagBits_two (a b : Bool) : (flagBits [a, b]).toNat = a.toNat + 2 * b.toNat := by
  cases a <;> cases b <;> rfl

theorem flagBits_one (a : Bool) : (flagBits [a]).toNat = a.toNat := by cases a <;> rfl

theorem flagBits_five (a b c d e : Bool) :
    (flagBits [a, b, c, d, e]).toNat = a.toNat + 2 * b.toNat + 4 * c.toNat + 8 * d.toNat + 16 * e.toNat := by
  cases a <;> cases b <;> cases c <;> cases d <;> cases e <;> rfl

/-- The two bits of a port in the rights byte (Table 11-3). -/
theorem rightsCode_bits (r : PerPort Rights) (q : Port) : (rightsCode r).toNat / 4 ^ portIndex q % 4 = match r.get q with
    | .none => 0 | .read => 1 | .readWrite => 2 := by
  obtain ⟨a, b, c, d⟩ := r
  cases a <;> cases b <;> cases c <;> cases d <;> cases q <;> rfl

/-! ### STATUS -/

/-- Settles O48: the fields of STATUS are read off its layout, and the laws keep each within its bytes. -/
theorem statusShowsTheState : Obligations.StatusShowsTheState := by
  intro s hlaw
  obtain ⟨-, hbuffer, -, -, -, -, -, hrange, -⟩ := hlaw
  obtain ⟨hqueues, hposted, hlist, -⟩ := hbuffer
  obtain ⟨-, hwindow, hoffset, -⟩ := hrange
  have hcount (p : Port) : postedCount s p = s.posted.countP (fun e => decide (e.port = p)) := by
    rw [postedCount, List.countP_eq_length_filter]
    congr 1
  have hcounts (p : Port) : postedCount s p < 256 := by
    have hle : postedCount s p ≤ s.posted.length := List.length_filter_le _ _
    omega
  refine ⟨rfl, (fieldAt_byte rfl).trans (gateCode_toNat _), (fieldAt_byte rfl).trans (memStateCode_toNat _),
    (fieldAt_byte rfl).trans (planCode_toNat _), ?_, (fieldAt_byte rfl).trans (planCode_toNat _),
    (fieldAt_byte rfl).trans (flagBits_four _ _ _ _), fieldAt_count rfl (by omega), fieldAt_number rfl (by omega),
    fieldAt_number rfl (s.sched.frame.isLt), ?_, fieldAt_count rfl (by omega), fieldAt_count rfl (by omega),
    (fieldAt_byte rfl).trans (resultCode_toNat _), fieldAt_byte rfl⟩
  · rintro (_ | _)
    · exact (fieldAt_byte rfl).trans (planStateCode_toNat _)
    · exact (fieldAt_byte rfl).trans (planStateCode_toNat _)
  · intro p
    have hqueue := hqueues p
    rw [← hcount]
    cases p <;> exact ⟨fieldAt_count rfl (by omega), fieldAt_count rfl (hcounts _)⟩

/-! ### The records -/

theorem faultData_none {r : FaultRecord} (h : r.first = none) : faultData r = List.replicate 15 0x00 ++ [countByte r.later] := by
  rw [faultData, h]

/-- The data of an occupied record (Table 11-4). -/
theorem faultData_some {r : FaultRecord} {i : FaultInfo} (h : r.first = some i) : faultData r =
    [flagBits [true, i.window.isSome, i.plan.isSome, i.frame.isSome], faultReasonCode i.reason,
      countByte i.tag.val, kindCode i.kind] ++ beBytes 4 i.addr.toNat ++ [countByte i.beats]
      ++ optionalBytes 1 i.window ++ [planField i.plan] ++ optionalBytes 4 (i.frame.map (·.toNat))
      ++ [countByte r.later] := by
  rw [faultData, h]

theorem frame_lt (o : Option (BitVec 32)) : (o.map (·.toNat)).getD 0 < 256 ^ 4 := by
  cases o with
  | none => decide
  | some f => exact f.isLt

/-- READ FAULT shows the record (Table 11-4). -/
theorem faultData_fields {r : FaultRecord} (h : RecordRange r) :
    (faultData r).length = 16 ∧ fieldAt (faultData r) 15 1 = r.later
      ∧ (r.first = none → (faultData r).take 15 = List.replicate 15 0x00)
      ∧ (∀ i, r.first = some i →
        fieldAt (faultData r) 0 1 = 1 + 2 * i.window.isSome.toNat + 4 * i.plan.isSome.toNat + 8 * i.frame.isSome.toNat
        ∧ fieldAt (faultData r) 1 1 = (faultReasonCode i.reason).toNat
        ∧ fieldAt (faultData r) 2 1 = i.tag.val
        ∧ fieldAt (faultData r) 3 1 = (if i.kind = .read then 0 else 1) ∧ fieldAt (faultData r) 4 4 = i.addr.toNat
        ∧ fieldAt (faultData r) 8 1 = i.beats
        ∧ fieldAt (faultData r) 9 1 = i.window.getD 0 ∧ fieldAt (faultData r) 10 1 = (if i.plan = some .b then 1 else 0)
        ∧ fieldAt (faultData r) 11 4 = (i.frame.map (·.toNat)).getD 0) := by
  obtain ⟨hlater, -, hfirst⟩ := h
  cases hr : r.first with
  | none =>
    rw [faultData_none hr]
    exact ⟨rfl, fieldAt_count rfl (by omega), fun _ => rfl, fun i hi => by cases hi⟩
  | some i =>
    obtain ⟨-, hbeats, hwindow⟩ := hfirst i hr
    have hgetD : i.window.getD 0 < 256 ^ 1 := by
      cases hw : i.window with
      | none => decide
      | some w => exact (hwindow w hw).trans_lt (by decide)
    rw [faultData_some hr]
    refine ⟨rfl, fieldAt_count rfl (by omega), fun hn => (by cases hn), fun j hj => ?_⟩
    obtain rfl := Option.some.inj hj
    exact ⟨(fieldAt_byte rfl).trans (flagBits_four _ _ _ _), fieldAt_byte rfl, fieldAt_count rfl (by omega),
      (fieldAt_byte rfl).trans (kindCode_toNat _), fieldAt_number rfl i.addr.isLt, fieldAt_count rfl (by omega),
      fieldAt_number rfl hgetD, (fieldAt_byte rfl).trans (planField_toNat _), fieldAt_number rfl (frame_lt _)⟩

/-- READ SYNC shows the capture record (Table 11-4). -/
theorem captureData_fields {c : Capture} (h : ∀ x, c.position = some x → CaptureRange x) :
    (captureData c).length = 15 ∧ fieldAt (captureData c) 0 1 = c.valid.toNat + 2 * c.position.isSome.toNat
      ∧ fieldAt (captureData c) 1 1 = (syncOutcomeCode c.outcome).toNat
      ∧ (c.position = none → (captureData c).drop 2 = List.replicate 13 0x00)
      ∧ (∀ x, c.position = some x → fieldAt (captureData c) 2 4 = x.frame.toNat ∧ fieldAt (captureData c) 6 1 = x.window
        ∧ fieldAt (captureData c) 7 2 = x.offset ∧ fieldAt (captureData c) 9 3 = x.ticks
        ∧ fieldAt (captureData c) 12 3 = x.length) := by
  refine ⟨rfl, (fieldAt_byte rfl).trans (flagBits_two _ _), fieldAt_byte rfl, fun hn => ?_, fun x hx => ?_⟩
  · rw [captureData, hn]
    rfl
  · obtain ⟨hwindow, hoffset, hticks, hlength⟩ := h x hx
    rw [captureData, hx]
    exact ⟨fieldAt_number rfl x.frame.isLt, fieldAt_number rfl (by omega), fieldAt_number rfl (by omega),
      fieldAt_number rfl (by omega), fieldAt_number rfl (by omega)⟩

/-- READ RECOVERY REPORT shows the report (Table 11-4). -/
theorem recoveryReportData_fields {r : RecoveryReport} (h : r.lost + r.answered ≤ 16) :
    (recoveryReportData r).length = 9
      ∧ fieldAt (recoveryReportData r) 0 1 = (failureCode r.reason).toNat
      ∧ fieldAt (recoveryReportData r) 1 1 = r.frame.isSome.toNat
      ∧ fieldAt (recoveryReportData r) 2 4 = (r.frame.map (·.toNat)).getD 0
      ∧ fieldAt (recoveryReportData r) 6 1 = r.lost ∧ fieldAt (recoveryReportData r) 7 1 = r.answered
      ∧ fieldAt (recoveryReportData r) 8 1 = (recoveryOutcomeCode r.outcome).toNat :=
  ⟨rfl, fieldAt_byte rfl, (fieldAt_byte rfl).trans (flagBits_one _), fieldAt_number rfl (frame_lt _),
    fieldAt_count rfl (by omega), fieldAt_count rfl (by omega), fieldAt_byte rfl⟩

/-! ### The items of a plan -/

theorem windowItem_fields {w : Window} (h : w.length ≤ 65535) : (padItem (windowItem w)).length = 20
    ∧ fieldAt (padItem (windowItem w)) 0 2 = w.length ∧ fieldAt (padItem (windowItem w)) 2 1 = w.openSet.toNat
    ∧ fieldAt (padItem (windowItem w)) 3 1 = w.drain.toNat ∧ (padItem (windowItem w)).drop 4 = List.replicate 16 0x00 := by
  have hopen : (w.openSet.setWidth 8).toNat = w.openSet.toNat := by
    rw [BitVec.toNat_setWidth, Nat.mod_eq_of_lt (w.openSet.isLt.trans (by decide))]
  exact ⟨rfl, fieldAt_number rfl (by omega), (fieldAt_byte rfl).trans hopen, (fieldAt_byte rfl).trans (flagCode_toNat _), rfl⟩

theorem regionItem_fields {r : Region} (h : r.size ≤ 4294967296) : (padItem (regionItem r)).length = 20
    ∧ fieldAt (padItem (regionItem r)) 0 4 = r.base.toNat ∧ fieldAt (padItem (regionItem r)) 4 5 = r.size
    ∧ (∀ q, fieldAt (padItem (regionItem r)) 9 1 / 4 ^ portIndex q % 4 = match r.rights.get q with
        | .none => 0 | .read => 1 | .readWrite => 2)
    ∧ fieldAt (padItem (regionItem r)) 10 1 = r.posting.toNat
    ∧ (padItem (regionItem r)).drop 11 = List.replicate 9 0x00 := by
  refine ⟨rfl, fieldAt_number rfl r.base.isLt, fieldAt_number rfl (by omega), fun q => ?_,
    (fieldAt_byte rfl).trans (flagCode_toNat _), rfl⟩
  have hbyte : fieldAt (padItem (regionItem r)) 9 1 = (rightsCode r.rights).toNat := fieldAt_byte rfl
  rw [hbyte]
  exact rightsCode_bits _ q

theorem settingsItem_fields {c : PortSettings} (hlimit : c.holdLimit ≤ 65535) (hquota : c.quota ≤ 16) :
    (padItem (settingsItem c)).length = 20 ∧ fieldAt (padItem (settingsItem c)) 0 2 = c.holdLimit
      ∧ fieldAt (padItem (settingsItem c)) 2 1 = c.quota ∧ (padItem (settingsItem c)).drop 3 = List.replicate 17 0x00 :=
  ⟨rfl, fieldAt_number rfl (by omega), fieldAt_count rfl (by omega), rfl⟩

theorem countsItem_fields {p : Plan} (h : PlanRange p) : (padItem (countsItem p)).length = 20
    ∧ fieldAt (padItem (countsItem p)) 0 1 = p.windowCount ∧ fieldAt (padItem (countsItem p)) 1 1 = p.regionCount
    ∧ fieldAt (padItem (countsItem p)) 2 1 = p.overhead ∧ fieldAt (padItem (countsItem p)) 3 1 = p.beatCost
    ∧ (padItem (countsItem p)).drop 4 = List.replicate 16 0x00 := by
  obtain ⟨hwindows, hregions, hoverhead, hbeat, -⟩ := h
  exact ⟨rfl, fieldAt_count rfl (by omega), fieldAt_count rfl (by omega), fieldAt_count rfl (by omega),
    fieldAt_count rfl (by omega), rfl⟩

theorem derivedItem_fields {d : Derived} (h : DerivedRange d) : (padItem (derivedItem d)).length = 20
    ∧ (∀ q, fieldAt (padItem (derivedItem d)) (2 * portIndex q) 2 = d.longestOpen.get q
      ∧ fieldAt (padItem (derivedItem d)) (8 + 2 * portIndex q) 2 = d.longestRetire.get q)
    ∧ fieldAt (padItem (derivedItem d)) 16 3 = d.frameLength ∧ (padItem (derivedItem d)).drop 19 = [0x00] := by
  obtain ⟨hlongest, hframe⟩ := h
  refine ⟨rfl, fun q => ?_, fieldAt_number rfl (by omega), rfl⟩
  obtain ⟨hopen, hretire⟩ := hlongest q
  cases q <;> exact ⟨fieldAt_number rfl (Nat.lt_succ_of_le hopen), fieldAt_number rfl (Nat.lt_succ_of_le hretire)⟩

/-- The outcome of a check report. -/
def reportOutcome : Report → Nat
  | .none => 0
  | .passed _ _ => 1
  | .failed _ => 2

/-- The failure reason of a check report, 0 for none. -/
def reportFailure : Report → Nat
  | .none | .passed _ _ => 0
  | .failed .noWindows => 1
  | .failed (.windowUnset _) => 2
  | .failed .allQuiet => 3
  | .failed (.regionUnset _) => 4
  | .failed (.regionRange _) => 5
  | .failed (.stranded _) => 6

/-- The index of a check report, 0 for none. -/
def reportIndex : Report → Nat
  | .none | .passed _ _ | .failed .noWindows | .failed .allQuiet => 0
  | .failed (.windowUnset i) => i
  | .failed (.regionUnset i) => i
  | .failed (.regionRange i) => i
  | .failed (.stranded .p0) => 0
  | .failed (.stranded .p1) => 1
  | .failed (.stranded .p2) => 2
  | .failed (.stranded .p3) => 3

/-- The warnings of a check report, one bit each. -/
def reportWarnings : Report → Nat
  | .none | .failed _ => 0
  | .passed u noRegions => u.p0.toNat + 2 * u.p1.toNat + 4 * u.p2.toNat + 8 * u.p3.toNat + 16 * noRegions.toNat

/-- The four bytes of a check report (Table 11-7, item 5). -/
structure ReportBytes (r : Report) (outcome failure index warnings : Byte) : Prop where
  bytes : reportBytes r = [outcome, failure, index, warnings]
  outcome : outcome.toNat = reportOutcome r
  failure : failure.toNat = reportFailure r
  index : index.toNat = reportIndex r
  warnings : warnings.toNat = reportWarnings r

/-- The index of a report is that of a record, so that a byte holds it (R7). -/
theorem reportBytes_of_range {r : Report} (h : ReportRange r) : ∃ o f i w, ReportBytes r o f i w := by
  rcases r with _ | ⟨u, noRegions⟩ | (_ | i | _ | i | i | q)
  case none => exact ⟨0, 0, 0, 0, rfl, rfl, rfl, rfl, rfl⟩
  case passed => exact ⟨1, 0, 0, _, rfl, rfl, rfl, rfl, flagBits_five _ _ _ _ _⟩
  case failed.noWindows => exact ⟨2, 1, 0, 0, rfl, rfl, rfl, rfl, rfl⟩
  case failed.windowUnset => exact ⟨2, 2, _, 0, rfl, rfl, rfl, countByte_toNat (Nat.lt_of_le_of_lt h (by decide)), rfl⟩
  case failed.allQuiet => exact ⟨2, 3, 0, 0, rfl, rfl, rfl, rfl, rfl⟩
  case failed.regionUnset => exact ⟨2, 4, _, 0, rfl, rfl, rfl, countByte_toNat (Nat.lt_of_le_of_lt h (by decide)), rfl⟩
  case failed.regionRange => exact ⟨2, 5, _, 0, rfl, rfl, rfl, countByte_toNat (Nat.lt_of_le_of_lt h (by decide)), rfl⟩
  case failed.stranded => exact ⟨2, 6, countByte (portIndex q), 0, rfl, rfl, rfl, by cases q <;> rfl, rfl⟩

/-- The state and report item: the plan's state, whether it is the pending target, and its report (Table 11-7, item 5). -/
theorem stateItem_fields {p : Plan} (target : Bool) {o f i w : Byte} (h : ReportBytes p.report o f i w) :
    (padItem (stateItem p target)).length = 20
      ∧ fieldAt (padItem (stateItem p target)) 0 1 = (planStateCode p.state).toNat
      ∧ fieldAt (padItem (stateItem p target)) 1 1 = target.toNat
      ∧ fieldAt (padItem (stateItem p target)) 2 1 = o.toNat ∧ fieldAt (padItem (stateItem p target)) 3 1 = f.toNat
      ∧ fieldAt (padItem (stateItem p target)) 4 1 = i.toNat ∧ fieldAt (padItem (stateItem p target)) 5 1 = w.toNat
      ∧ (padItem (stateItem p target)).drop 6 = List.replicate 14 0x00 := by
  rw [stateItem, h.bytes]
  exact ⟨rfl, fieldAt_byte rfl, (fieldAt_byte rfl).trans (flagCode_toNat _), fieldAt_byte rfl, fieldAt_byte rfl,
    fieldAt_byte rfl, fieldAt_byte rfl, rfl⟩

theorem regionAt_size {p : Plan} (h : PlanRange p) (i : Nat) : (regionAt p i).size ≤ 4294967296 := by
  obtain ⟨-, -, -, -, -, hregions, -⟩ := h
  by_cases hi : i < p.regions.toList.length
  · rw [regionAt, List.getD_eq_getElem _ _ hi]
    obtain ⟨-, -, hsize⟩ := hregions _ (List.getElem_mem hi)
    exact hsize
  · rw [regionAt, List.getD_eq_default _ _ (not_lt.mp hi)]
    exact Nat.zero_le _

section
variable (s : State) (n : PlanName)

theorem planItem_window {i : Byte} (h : i.toNat ≤ 31) :
    planItem s n 0 i = some (padItem (windowItem (windowAt (s.plans.get n) i.toNat))) := if_pos (Nat.lt_succ_of_le h)

theorem planItem_region {i : Byte} (h : i.toNat ≤ 15) :
    planItem s n 1 i = some (padItem (regionItem (regionAt (s.plans.get n) i.toNat))) := if_pos (Nat.lt_succ_of_le h)

theorem planItem_settings (q : Port) :
    planItem s n 2 (portByte q) = some (padItem (settingsItem ((s.plans.get n).settings.get q))) := by
  cases q <;> rfl

end

/-- Settles O49: each record's data, and each item of a plan, by its layout. -/
theorem readDataShowsTheRecords : Obligations.ReadDataShowsTheRecords := by
  refine ⟨fun s hlaw => ?_, fun s n hlaw => ?_⟩ <;> obtain ⟨-, -, -, -, -, -, -, hrange, -⟩ := hlaw <;>
    have hparts := rangeLaw_iff.mp hrange
  · refine ⟨fun p => ?_, ?_, ?_⟩
    · obtain ⟨hlength, hlater, hnone, hsome⟩ := faultData_fields (hparts.faults p)
      refine ⟨hlength, hlater, hnone, fun i hi => ?_⟩
      obtain ⟨hflags, hreason, hrest⟩ := hsome i hi
      exact ⟨hflags, hreason.trans (faultReasonCode_toNat _), hrest⟩
    · obtain ⟨hlength, hflags, houtcome, hrest⟩ := captureData_fields hparts.capture
      exact ⟨hlength, hflags, houtcome.trans (syncOutcomeCode_toNat _), hrest⟩
    · obtain ⟨hlength, hreason, hframe, hnumber, hlost, hanswered, houtcome⟩ := recoveryReportData_fields hparts.report
      exact ⟨hlength, hreason.trans (failureCode_toNat _), hframe, hnumber, hlost, hanswered,
        houtcome.trans (recoveryOutcomeCode_toNat _)⟩
  · have hplan := hparts.plans n
    obtain ⟨-, -, -, -, -, -, hsettings, hderived, hreport⟩ := id hplan
    refine ⟨fun i hi => ⟨_, planItem_window s n hi, windowItem_fields (windowAt_range hplan _)⟩,
      fun i hi => ⟨_, planItem_region s n hi, regionItem_fields (regionAt_size hplan _)⟩, fun q => ?_,
      ⟨_, rfl, countsItem_fields hplan⟩, ⟨_, rfl, derivedItem_fields hderived⟩, ?_⟩
    · obtain ⟨hlimit, hquota⟩ := hsettings q
      exact ⟨_, planItem_settings s n q, settingsItem_fields hlimit hquota⟩
    · obtain ⟨o, f, i, w, hbytes⟩ := reportBytes_of_range hreport
      obtain ⟨hlength, hstate, htarget, houtcome, hfailure, hindex, hwarnings, hrest⟩ :=
        stateItem_fields (s.sched.pendingSwap == some n) hbytes
      refine ⟨_, rfl, hlength, hstate.trans (planStateCode_toNat _), htarget.trans ?_, houtcome.trans hbytes.outcome,
        hfailure.trans hbytes.failure, hindex.trans hbytes.index, hwarnings.trans hbytes.warnings, hrest⟩
      by_cases hpending : s.sched.pendingSwap = some n <;> simp [hpending]

end Sys2Proof.Machine
end

section
/-! SUPPORT. What a gate tick made due (R26, R29; log entries 4 and 10): the events of a tick taken one command after another are
those taken together, since none of them reads what the others present; and after them nothing is due. -/

namespace Sys2Proof.Machine

-- One proof at a time, as in the sections before.
set_option Elab.async false

/-! ### What was presented before -/

/-- The part with outputs that were presented before its own. -/
def addOut (o : Outputs) (s : State) : State :=
  { s with out :=
    { responses := perPort (fun p => o.responses.get p ++ s.out.responses.get p)
      issues := o.issues ++ s.out.issues } }

theorem addOut_quiet (s : State) : addOut s.out (quiet s) = s := by
  have hnone (p : Port) : Outputs.none.responses.get p = [] := by cases p <;> rfl
  have hissues : Outputs.none.issues = [] := rfl
  have hports : perPort (fun p => s.out.responses.get p) = s.out.responses := PerPort.eq_of_get fun p => perPort_get _ p
  simp only [addOut, quiet, hnone, hissues, List.append_nil, hports]

/-- An event that reads nothing of what is presented, and leaves the two pins that the events of a tick read. -/
structure Threads (f : State → State) : Prop where
  out : ∀ o s, f (addOut o s) = addOut o (f s)
  inReset : ∀ s, (f s).inReset = s.inReset
  memrdy : ∀ s, (f s).mem.memrdy = s.mem.memrdy

namespace Threads

/-- A change that does not touch the outputs. -/
theorem silent {f : State → State} (hout : ∀ o s, f (addOut o s) = addOut o (f s) := by exact fun _ _ => rfl)
    (hreset : ∀ s, (f s).inReset = s.inReset := by exact fun _ => rfl)
    (hmemrdy : ∀ s, (f s).mem.memrdy = s.mem.memrdy := by exact fun _ => rfl) : Threads f := ⟨hout, hreset, hmemrdy⟩

theorem id : Threads (fun s => s) := silent

theorem comp {f g : State → State} (hg : Threads g) (hf : Threads f) : Threads (fun s => g (f s)) where
  out o s := by rw [hf.out, hg.out]
  inReset s := (hg.inReset _).trans (hf.inReset s)
  memrdy s := (hg.memrdy _).trans (hf.memrdy s)

theorem ite {c : State → Prop} [∀ s, Decidable (c s)] {f g : State → State} (hf : Threads f) (hg : Threads g)
    (hc : ∀ o s, c (addOut o s) ↔ c s := by exact fun _ _ => Iff.rfl) : Threads (fun s => if c s then f s else g s) where
  out o s := by
    simp only [hc, hf.out, hg.out]
    exact (apply_ite (addOut o) _ _ _).symm
  inReset s := by
    split
    · exact hf.inReset s
    · exact hg.inReset s
  memrdy s := by
    split
    · exact hf.memrdy s
    · exact hg.memrdy s

/-- An event that is one of several by something it reads, which is not what is presented. -/
theorem of_reads {α : Type} {f : State → State} (k : State → α) (h : ∀ a, ∃ g, Threads g ∧ ∀ s, k s = a → f s = g s)
    (hk : ∀ o s, k (addOut o s) = k s := by exact fun _ _ => rfl) : Threads f where
  out o s := by
    obtain ⟨g, hg, hf⟩ := h (k s)
    rw [hf s rfl, hf _ (hk o s), hg.out]
  inReset s := by
    obtain ⟨g, hg, hf⟩ := h (k s)
    rw [hf s rfl, hg.inReset]
  memrdy s := by
    obtain ⟨g, hg, hf⟩ := h (k s)
    rw [hf s rfl, hg.memrdy]

theorem iterate {f : State → State} (hf : Threads f) : ∀ n : Nat, Threads f^[n]
  | 0 => id
  | n + 1 => (iterate hf n).comp hf

/-- One more command is the event on the part as it stands, whatever was presented before. -/
theorem thenCommand {f : State → State} (hf : Threads f) {c : Instr} {s : State}
    (hc : exec c s = .next (f (quiet s))) : thenCommand s c = f s := by
  have hstep : Machine.thenCommand s c = addOut s.out (f (quiet s)) := by
    simp only [Machine.thenCommand, hc]
    rfl
  rw [hstep, ← hf.out, addOut_quiet]

end Threads

theorem raise_threads (k : EventKind) : Threads (raise k) := .silent

theorem stoppedFrom_threads : Threads stoppedFrom where
  out o s := by
    simp only [stoppedFrom, addOut, perPort_get, List.append_assoc]
    rfl
  inReset _ := rfl
  memrdy _ := rfl

theorem failedFrom_threads (why : FailureKind) : Threads (failedFrom why) where
  out o s := by
    simp only [failedFrom, addOut, perPort_get, List.append_assoc]
    rfl
  inReset _ := rfl
  memrdy _ := rfl

theorem enteredFrom_threads : Threads enteredFrom where
  out o s := by
    simp only [enteredFrom, addOut, perPort_get, List.append_assoc]
    rfl
  inReset _ := rfl
  memrdy _ := rfl

/-! ### The events of a tick -/

theorem makeSwap_threads : Threads makeSwap := by
  refine .of_reads (·.sched.pendingSwap) fun swap => ?_
  cases swap with
  | none => exact ⟨_, .id, fun s => makeSwap_of_none⟩
  | some n => exact ⟨_, (raise_threads .swapDone).comp (enteredFrom_threads.comp .silent), fun s => makeSwap_of_some⟩

theorem enterStopped_threads : Threads enterStopped := by
  have heq : enterStopped = stoppedFrom := funext enterStopped_eq
  exact heq ▸ stoppedFrom_threads

theorem frameBoundary_threads : Threads frameBoundary := by
  have hbegin : Threads beginFrame := (raise_threads .frameStart).comp .silent
  have hend : Threads (fun t => if t.sched.pendingHalt = true then enterStopped t else beginFrame t) :=
    .ite enterStopped_threads hbegin
  exact hend.comp (makeSwap_threads.comp (f := nextFrame) .silent)

theorem takeWalkTick_threads : Threads takeWalkTick := by
  have hexpire : Threads expireWindow := .ite .silent frameBoundary_threads
  have htick : Threads (fun t => if (!walking t) = true then t else if expiryDue t = true then expireWindow t
      else { t with sched := { t.sched with offset := t.sched.offset + 1 } }) := .ite .id (.ite hexpire .silent)
  exact htick.comp (f := walkTaken) .silent

theorem takeOwedWalk_threads : Threads takeOwedWalk := .ite takeWalkTick_threads .id

theorem give_threads (p : Port) (r : Response) : Threads (give p r) where
  out o s := by
    have hgiven : (perPort fun q => o.responses.get q ++ s.out.responses.get q).set p
        ((o.responses.get p ++ s.out.responses.get p) ++ [r])
          = perPort fun q => o.responses.get q ++ (s.out.responses.set p (s.out.responses.get p ++ [r])).get q := by
      rw [PerPort.set_eq_perPort]
      refine PerPort.eq_of_get fun q => ?_
      by_cases hq : q = p
      · subst hq; simp
      · simp [hq, PerPort.get_set_other]
    simp only [give, addOut, perPort_get, hgiven]
  inReset _ := rfl
  memrdy _ := rfl

theorem answer_threads (p : Port) (tag : Tag) (st : Status) (data : Option (List BeatData)) : Threads (answer p tag st data) :=
  .comp (g := mapPort p fun u => { u with tags := u.tags.filter (· != tag) }) .silent (give_threads _ _)

theorem expireOne_threads (p : Port) : Threads (expireOne p) := by
  refine .of_reads (fun s => (s.ports.get p).queue.find? expired) fun found => ?_
  cases found with
  | none => exact ⟨_, .id, fun s hs => by simp [expireOne, hs]⟩
  | some h =>
    have hanswer : Threads (fun s => answer p h.tag .late none (mapPort p (fun u => { u with queue := u.queue.eraseP expired }) s)) :=
      (answer_threads p h.tag .late none).comp .silent
    refine ⟨fun s => handFault p (faultNow s .late h.tag h.kind h.addr h.beats)
      (answer p h.tag .late none (mapPort p (fun u => { u with queue := u.queue.eraseP expired }) s)), ?_, fun s hs => ?_⟩
    · refine ⟨fun o s => ?_, hanswer.inReset, hanswer.memrdy⟩
      rw [hanswer.out]
      rfl
    · simp only [expireOne, hs]

theorem completeCheck_threads : Threads completeCheck := by
  refine .of_reads (·.check) fun check => ?_
  by_cases hdue : ∃ n f d, check = some ⟨n, .finish f, d, true⟩
  · obtain ⟨n, f, d, rfl⟩ := hdue
    refine ⟨fun s => raise .checkDone (mapPlan n (checkedPlan d f) { s with check := none }), .silent, fun s hs => ?_⟩
    simp only [completeCheck, hs]
  · refine ⟨_, .id, fun s hs => ?_⟩
    unfold completeCheck
    split
    · rename_i n f d h
      exact absurd ⟨n, f, d, hs ▸ h⟩ hdue
    · rfl

theorem timeoutTest_threads : Threads timeoutTest := by
  have hfail : Threads (memoryFailure .timeout) := by
    have heq : memoryFailure .timeout = failedFrom .timeout := funext (memoryFailure_eq .timeout)
    exact heq ▸ failedFrom_threads .timeout
  exact .ite hfail .id

theorem endPulse_threads : Threads endPulse := by
  have hsucceeds : Threads recoverySucceeds := enterStopped_threads.comp (f := endRecovery .ready .succeeded) .silent
  have hrelease : Threads (fun s => if s.mem.memrdy = true
      then recoverySucceeds { s with mem := { s.mem with memrst := false, recovery := .wait (readyWaitLimit s) } }
      else { s with mem := { s.mem with memrst := false, recovery := .wait (readyWaitLimit s) } }) :=
    .ite (hsucceeds.comp .silent) .silent
  exact .ite hrelease .id

theorem expireReadyWait_threads : Threads expireReadyWait := .ite .silent .id

theorem takeResetStep_threads : Threads takeResetStep := by
  have hreset : Threads resetStep := by
    refine .silent (fun o s => ?_) (fun s => ?_) (fun s => ?_) <;> simp only [resetStep, setDevice_eq]
    rfl
  exact .ite hreset .id

/-! ### Hold limits until none is due -/

theorem expireOne_of_none {p : Port} {s : State} (h : (s.ports.get p).queue.countP expired = 0) : expireOne p s = s := by
  have hfind : (s.ports.get p).queue.find? expired = none := List.find?_eq_none.mpr (List.countP_eq_zero.mp h)
  simp [expireOne, hfind]

/-- Each expiry takes one request that is due from the queue (R84). -/
theorem expireOne_count (p : Port) (s : State) :
    ((expireOne p s).ports.get p).queue.countP expired = (s.ports.get p).queue.countP expired - 1 := by
  cases hfind : (s.ports.get p).queue.find? expired with
  | none =>
    have hzero := List.countP_eq_zero.mpr (List.find?_eq_none.mp hfind)
    rw [expireOne_of_none hzero, hzero]
  | some h =>
    have hcount := (perm_cons_eraseP hfind).countP_eq expired
    rw [List.countP_cons_of_pos (List.find?_some hfind)] at hcount
    rw [expireOne_eq hfind]
    simp only [PerPort.get_set_same]
    omega

theorem expireOne_other {p q : Port} (h : q ≠ p) (s : State) : (expireOne p s).ports.get q = s.ports.get q := by
  cases hfind : (s.ports.get p).queue.find? expired with
  | none => rw [expireOne_of_none (List.countP_eq_zero.mpr (List.find?_eq_none.mp hfind))]
  | some x => rw [expireOne_eq hfind]; exact PerPort.get_set_other _ _ h

theorem iterate_expireOne_count (p : Port) (n : Nat) (s : State) :
    (((expireOne p)^[n] s).ports.get p).queue.countP expired = (s.ports.get p).queue.countP expired - n := by
  induction n generalizing s with
  | zero => rfl
  | succ n ih => rw [Function.iterate_succ_apply, ih, expireOne_count]; omega

theorem iterate_expireOne_other {p q : Port} (h : q ≠ p) (n : Nat) (s : State) :
    ((expireOne p)^[n] s).ports.get q = s.ports.get q := by
  induction n generalizing s with
  | zero => rfl
  | succ n ih => rw [Function.iterate_succ_apply, ih, expireOne_other h]

theorem expireQueue_eq (p : Port) (s : State) : expireQueue p s = (expireOne p)^[(s.ports.get p).queue.length] s :=
  List.foldl_const _ _ _

/-- As many expiries as the queue has places are enough, and more change nothing. -/
theorem iterate_expireOne_eq {p : Port} {n : Nat} {s : State} (h : (s.ports.get p).queue.length ≤ n) :
    (expireOne p)^[n] s = expireQueue p s := by
  obtain ⟨extra, rfl⟩ := Nat.exists_eq_add_of_le' h
  have hle : (s.ports.get p).queue.countP expired ≤ (s.ports.get p).queue.length := List.countP_le_length
  have hdone := iterate_expireOne_count p (s.ports.get p).queue.length s
  rw [Nat.sub_eq_zero_of_le hle] at hdone
  rw [Function.iterate_add_apply, expireQueue_eq, Function.iterate_fixed (expireOne_of_none hdone)]

theorem expireQueue_none (p : Port) (s : State) : ((expireQueue p s).ports.get p).queue.countP expired = 0 := by
  have hle : (s.ports.get p).queue.countP expired ≤ (s.ports.get p).queue.length := List.countP_le_length
  rw [expireQueue_eq, iterate_expireOne_count]
  omega

theorem expireQueue_other {p q : Port} (h : q ≠ p) (s : State) : (expireQueue p s).ports.get q = s.ports.get q := by
  rw [expireQueue_eq, iterate_expireOne_other h]

theorem expireAll_eq (s : State) : expireAll s = expireQueue .p3 (expireQueue .p2 (expireQueue .p1 (expireQueue .p0 s))) := rfl

/-- After the expiries no deadline is at 0 (R84). -/
theorem expireAll_none (s : State) (q : Port) : ((expireAll s).ports.get q).queue.countP expired = 0 := by
  have hother {p q : Port} (h : q ≠ p) {u : State} (hu : (u.ports.get q).queue.countP expired = 0) :
      ((expireQueue p u).ports.get q).queue.countP expired = 0 := by rw [expireQueue_other h, hu]
  rw [expireAll_eq]
  cases q with
  | p0 => exact hother (by decide) (hother (by decide) (hother (by decide) (expireQueue_none _ _)))
  | p1 => exact hother (by decide) (hother (by decide) (expireQueue_none _ _))
  | p2 => exact hother (by decide) (expireQueue_none _ _)
  | p3 => exact expireQueue_none _ _

/-! ### The commands of a tick -/

theorem foldl_thenCommand_replicate {f : State → State} (hf : Threads f) {c : Instr}
    (hc : ∀ s : State, s.inReset = false → exec c s = .next (f (quiet s))) (n : Nat) {s : State} (hout : s.inReset = false) :
    (List.replicate n c).foldl thenCommand s = f^[n] s := by
  induction n generalizing s with
  | zero => rfl
  | succ n ih =>
    rw [List.replicate_succ, List.foldl_cons, hf.thenCommand (hc s hout), ih ((hf.inReset s).trans hout),
      Function.iterate_succ_apply]

/-- The eight HOLD_LIMIT_EXPIRY commands of a port are its expiries (R80). -/
theorem foldl_holdLimitExpiry {p : Port} {s : State} (hout : s.inReset = false) (hqueue : (s.ports.get p).queue.length ≤ 8) :
    (List.replicate 8 (.holdLimitExpiry p)).foldl thenCommand s = expireQueue p s :=
  (foldl_thenCommand_replicate (c := .holdLimitExpiry p) (expireOne_threads p) (fun _ h => onEvent_of_running h) 8 hout).trans (iterate_expireOne_eq hqueue)

theorem expireQueue_threads (p : Port) : Threads (expireQueue p) := by
  refine .of_reads (fun s => (s.ports.get p).queue.length) fun n => ?_
  exact ⟨_, (expireOne_threads p).iterate n, fun s hs => by rw [expireQueue_eq, hs]⟩

/-- The commands of every hold queue are the expiries of all. -/
theorem foldl_holdLimitExpiries {s : State} (hout : s.inReset = false) (hqueues : ∀ p, (s.ports.get p).queue.length ≤ 8) :
    (allPorts.flatMap (fun p => List.replicate 8 (.holdLimitExpiry p))).foldl thenCommand s = expireAll s := by
  have hreset (p : Port) {u : State} (hu : u.inReset = false) := ((expireQueue_threads p).inReset u).trans hu
  have hother {p q : Port} (h : q ≠ p) {u : State} (hu : (u.ports.get q).queue.length ≤ 8) :
      ((expireQueue p u).ports.get q).queue.length ≤ 8 := by rwa [expireQueue_other h]
  have h0 := hreset .p0 hout
  have h1 := hreset .p1 h0
  have h2 := hreset .p2 h1
  simp only [allPorts, List.flatMap_cons, List.flatMap_nil, List.append_nil, List.foldl_append]
  rw [foldl_holdLimitExpiry hout (hqueues .p0), foldl_holdLimitExpiry h0 (hother (by decide) (hqueues .p1)),
    foldl_holdLimitExpiry h1 (hother (by decide) (hother (by decide) (hqueues .p2))),
    foldl_holdLimitExpiry h2 (hother (by decide) (hother (by decide) (hother (by decide) (hqueues .p3)))), expireAll_eq]

theorem expireAll_threads : Threads expireAll :=
  (expireQueue_threads .p3).comp ((expireQueue_threads .p2).comp ((expireQueue_threads .p1).comp (expireQueue_threads .p0)))

/-- The end of the pulse finds MEMRDY at the level it has (log entry 11). -/
theorem exec_recoveryPulseEnd {s : State} (hout : s.inReset = false) :
    exec (.recoveryPulseEnd s.mem.memrdy) s = .next (endPulse (quiet s)) := by
  refine (onEvent_of_running hout).trans (congrArg _ ?_)
  have hlevel : setMemrdy s.mem.memrdy (quiet s) = quiet s := rfl
  rw [hlevel, endPulse]
  split_ifs <;> rfl

/-- The commands of a tick's events, one after another, take all that is due (log entry 4). -/
theorem dueTaken_eq {s : State} (hout : s.inReset = false)
    (hqueues : ∀ p, ((takeOwedWalk (quiet s)).ports.get p).queue.length ≤ 8) : dueTaken s = takeDue (quiet s) := by
  have hchecked := completeCheck_threads.comp (expireAll_threads.comp takeOwedWalk_threads)
  have htested := timeoutTest_threads.comp hchecked
  have hended := endPulse_threads.comp htested
  have hwaited := expireReadyWait_threads.comp hended
  have hrunning {f : State → State} (hf : Threads f) : (f (quiet s)).inReset = false := (hf.inReset _).trans hout
  have howed : thenCommand (quiet s) .windowExpiry = takeOwedWalk (quiet s) :=
    takeOwedWalk_threads.thenCommand (onEvent_of_running (s := quiet s) hout)
  have hexpired := foldl_holdLimitExpiries (hrunning takeOwedWalk_threads) hqueues
  have hcompleted (u : State) (hu : u.inReset = false) : thenCommand u .checkCompletion = completeCheck u :=
    completeCheck_threads.thenCommand (onEvent_of_running hu)
  have htimeout (u : State) (hu : u.inReset = false) : thenCommand u .timeout = timeoutTest u :=
    timeoutTest_threads.thenCommand (onEvent_of_running hu)
  have hpulse (u : State) (hu : u.inReset = false) (hlevel : u.mem.memrdy = s.mem.memrdy) :
      thenCommand u (.recoveryPulseEnd s.mem.memrdy) = endPulse u :=
    endPulse_threads.thenCommand (hlevel ▸ exec_recoveryPulseEnd hu)
  have hwait (u : State) (hu : u.inReset = false) : thenCommand u .readyWaitExpiry = expireReadyWait u :=
    expireReadyWait_threads.thenCommand (onEvent_of_running hu)
  have hreset (u : State) (hu : u.inReset = false) : thenCommand u .resetStep = takeResetStep u :=
    takeResetStep_threads.thenCommand (onEvent_of_running hu)
  have hstart : ({ s with out := Outputs.none } : State) = quiet s := rfl
  simp only [dueTaken, dueCommands, List.foldl_append, List.foldl_cons, List.foldl_nil]
  rw [hstart, howed, hexpired, hcompleted _ (hrunning (expireAll_threads.comp takeOwedWalk_threads)), htimeout _ (hrunning hchecked),
    hpulse _ (hrunning htested) (htested.memrdy _), hwait _ (hrunning hended), hreset _ (hrunning hwaited)]
  rfl

/-! ### Nothing due -/

/-- Nothing of a tick's walk, deadlines, check and memory is due. -/
structure Settled (s : State) : Prop where
  walk : s.sched.walkOwed = false
  deadlines : ∀ p, (s.ports.get p).queue.countP expired = 0
  check : ∀ c, s.check = some c → c.due = false
  memory : overdue s = false

/-- A clearing of the hold queues leaves no deadline in them. -/
theorem countP_expired_nil : ([] : List Held).countP expired = 0 := rfl

theorem Settled.stopped {s : State} (h : Settled s) (hmemory : overdue s = false) : Settled (stoppedFrom s) where
  walk := rfl
  deadlines p := by
    simp only [stoppedFrom, perPort_get]
    split_ifs with hp
    · obtain ⟨rfl, -⟩ := hp
      exact h.deadlines .p0
    · rfl
  check := h.check
  memory := hmemory

theorem Settled.failed {s : State} (hcheck : ∀ c, s.check = some c → c.due = false) (why : FailureKind) :
    Settled (failedFrom why s) where
  walk := rfl
  deadlines p := by simp [failedFrom]
  check := hcheck
  memory := by simp [overdue, failedFrom]

theorem makeSwap_walkOwed (s : State) : (makeSwap s).sched.walkOwed = s.sched.walkOwed := by
  cases h : s.sched.pendingSwap with
  | none => rw [makeSwap_of_none h]
  | some n => rw [makeSwap_of_some h]; rfl

theorem takeOwedWalk_walkOwed (s : State) : (takeOwedWalk s).sched.walkOwed = false := by
  have hboundary (u : State) (hu : u.sched.walkOwed = false) : (frameBoundary u).sched.walkOwed = false := by
    have hswap : (makeSwap (nextFrame u)).sched.walkOwed = false := (makeSwap_walkOwed _).trans hu
    unfold frameBoundary
    dsimp only
    split
    · simp [stopSchedule]
    · exact hswap
  have hexpire (u : State) (hu : u.sched.walkOwed = false) : (expireWindow u).sched.walkOwed = false := by
    unfold expireWindow
    split
    · exact hu
    · exact hboundary u hu
  unfold takeOwedWalk
  split
  · unfold takeWalkTick
    dsimp only
    split_ifs
    · rfl
    · exact hexpire _ rfl
    · rfl
  · simpa using ‹¬ s.sched.walkOwed = true›

/-- A check found complete at the last tick is complete (R19). -/
theorem completeCheck_settled {s : State} (hplan : PlanParts s) : ∀ c, (completeCheck s).check = some c → c.due = false := by
  intro c hc
  unfold completeCheck at hc
  split at hc
  · cases hc
  · rename_i hnot
    by_contra hdue
    rw [Bool.not_eq_false] at hdue
    obtain ⟨n, point, built, due⟩ := c
    have hprogress := hplan.progress _ hc
    cases point with
    | window i =>
      obtain ⟨-, -, -, hfalse⟩ := hprogress
      exact Bool.false_ne_true (hfalse.symm.trans hdue)
    | region i =>
      obtain ⟨-, -, -, -, -, -, hfalse⟩ := hprogress
      exact Bool.false_ne_true (hfalse.symm.trans hdue)
    | finish f =>
      subst hdue
      exact hnot n f built hc

theorem Settled.endPulse {s : State} (hs : GateParts s) (h : Settled s) : Settled (endPulse s) := by
  by_cases hpulse : s.mem.recovery = .pulse 0
  · have hfaulted : s.sched.gate = .faulted := by
      refine hs.faulted_iff.mpr fun hready => ?_
      rw [hs.idle_of_ready hready] at hpulse
      cases hpulse
    obtain ⟨hlist, -⟩ := hs.empty hfaulted
    cases hlevel : s.mem.memrdy with
    | false =>
      rw [endPulse_low hpulse hlevel]
      exact ⟨h.walk, h.deadlines, h.check, h.memory⟩
    | true =>
      rw [endPulse_high hpulse hlevel]
      have hnone : overdue { s with
          mem := { s.mem with
            memrst := false, state := .ready, recovery := .idle, report := { s.mem.report with outcome := .succeeded } }
          events := eventsWith 0x008 s.events } = false := by simp [overdue, hlist]
      exact Settled.stopped ⟨h.walk, h.deadlines, h.check, hnone⟩ hnone
  · have hsame : Machine.endPulse s = s := if_neg hpulse
    rwa [hsame]

theorem Settled.readyWait {s : State} (h : Settled s) : Settled (expireReadyWait s) := by
  by_cases hwait : s.mem.recovery = .wait 0
  · rw [expireReadyWait_of_zero hwait]
    exact ⟨h.walk, h.deadlines, h.check, by simp [overdue]⟩
  · have hsame : expireReadyWait s = s := if_neg hwait
    rwa [hsame]

theorem Settled.resetStep {s : State} (hs : GateParts s) (h : Settled s) : Settled (takeResetStep s) := by
  by_cases hdue : s.link.resetDue = true
  · obtain ⟨-, hlist, -⟩ := hs.drained_of_due hdue
    have hstep : takeResetStep s = Machine.resetStep s := if_pos hdue
    rw [hstep, Machine.resetStep, setDevice_eq]
    exact ⟨rfl, h.deadlines, fun c hc => (by cases hc), by simp [overdue, hlist]⟩
  · have hsame : takeResetStep s = s := if_neg hdue
    rwa [hsame]

/-- No end of a recovery is due after those that were (R149, R151). -/
theorem recovery_settled (s : State) : (expireReadyWait (endPulse s)).mem.recovery ≠ .pulse 0
    ∧ (expireReadyWait (endPulse s)).mem.recovery ≠ .wait 0 := by
  have hpulse : (endPulse s).mem.recovery ≠ .pulse 0 := by
    by_cases h : s.mem.recovery = .pulse 0
    · cases hlevel : s.mem.memrdy with
      | false => rw [endPulse_low h hlevel]; simp
      | true => rw [endPulse_high h hlevel]; simp [stoppedFrom]
    · have hsame : endPulse s = s := if_neg h
      rwa [hsame]
  by_cases h : (endPulse s).mem.recovery = .wait 0
  · rw [expireReadyWait_of_zero h]
    simp
  · have hsame : expireReadyWait (endPulse s) = endPulse s := if_neg h
    rw [hsame]
    exact ⟨hpulse, h⟩

theorem takeResetStep_recovery (s : State) :
    (takeResetStep s).mem.recovery = s.mem.recovery ∧ (takeResetStep s).link.resetDue = false := by
  by_cases hdue : s.link.resetDue = true
  · have hstep : takeResetStep s = Machine.resetStep s := if_pos hdue
    rw [hstep, Machine.resetStep]
    exact ⟨rfl, rfl⟩
  · have hsame : takeResetStep s = s := if_neg hdue
    rw [hsame]
    exact ⟨rfl, Bool.eq_false_of_not_eq_true hdue⟩

theorem nothingDue_of_settled {s : State} (h : Settled s) (hpulse : s.mem.recovery ≠ .pulse 0) (hwait : s.mem.recovery ≠ .wait 0)
    (hreset : s.link.resetDue = false) : NothingDue s := by
  refine ⟨h.walk, fun p x hx => ?_, h.check, (overdue_eq_false_iff s).mp h.memory, hpulse, hwait, hreset⟩
  simpa [expired] using List.countP_eq_zero.mp (h.deadlines p) x hx

theorem completeCheck_sched_ports (s : State) :
    (completeCheck s).sched = s.sched ∧ (completeCheck s).ports = s.ports := by
  unfold completeCheck
  split <;> exact ⟨rfl, rfl⟩

/-- The failure test leaves no entry that is too old (R141). -/
theorem timeoutTest_settled {s : State} (hwalk : s.sched.walkOwed = false)
    (hdeadlines : ∀ p, (s.ports.get p).queue.countP expired = 0) (hcheck : ∀ c, s.check = some c → c.due = false) :
    Settled (timeoutTest s) := by
  by_cases hover : overdue s = true
  · rw [timeoutTest_overdue hover]
    exact .failed hcheck _
  · rw [timeoutTest_of_not_overdue hover]
    exact ⟨hwalk, hdeadlines, hcheck, Bool.eq_false_of_not_eq_true hover⟩

/-- After all that was due is taken, nothing is due (log entry 4). -/
theorem takeDue_nothingDue {s : State} (hs : Planned s) : NothingDue (takeDue s) := by
  have hexpired := planned_kept.acts ((takeOwedWalk_acts s).trans (expireAll_acts _)) hs
  have hchecked := completeCheck_settled hexpired.plan
  have htested := planned_kept.acts ((completeCheck_acts _).trans (timeoutTest_acts _)) hexpired
  obtain ⟨hsched, hports⟩ := completeCheck_sched_ports (expireAll (takeOwedWalk s))
  have hwalk : (completeCheck (expireAll (takeOwedWalk s))).sched.walkOwed = false := by
    rw [hsched, expireAll_sched, takeOwedWalk_walkOwed]
  have hsettled := timeoutTest_settled hwalk (fun p => hports ▸ expireAll_none _ p) hchecked
  have hended := hsettled.endPulse htested.gate
  have hwaited := planned_kept.acts ((endPulse_acts _).trans (expireReadyWait_acts _)) htested
  obtain ⟨hpulse, hwait⟩ := recovery_settled (timeoutTest (completeCheck (expireAll (takeOwedWalk s))))
  obtain ⟨hrecovery, hreset⟩ := takeResetStep_recovery
    (expireReadyWait (endPulse (timeoutTest (completeCheck (expireAll (takeOwedWalk s))))))
  rw [← hrecovery] at hpulse hwait
  exact nothingDue_of_settled (hended.readyWait.resetStep hwaited.gate) hpulse hwait hreset

/-! ### The counts of a tick -/

theorem tickWalk_eq {s : State} (howed : s.sched.walkOwed = false) :
    tickWalk s = { s with
      sched :=
        if walking s = false then { s.sched with frameLine := false }
        else if s.sched.offset + 1 = (currentWindow s).length then { s.sched with walkOwed := true }
        else { s.sched with offset := s.sched.offset + 1, frameLine := false } } := by
  cases hwalk : walking s with
  | false =>
    have hdue : expiryDue s = false := by simp [expiryDue, hwalk]
    have hstill : walking (walkTaken s) = false := hwalk
    have htaken : takeWalkTick s = walkTaken s := if_pos (by rw [walkTaken] at hstill; simp [hstill])
    rw [tickWalk, hdue, if_pos rfl, if_neg Bool.false_ne_true, htaken, walkTaken, ← howed]
  | true =>
    rw [if_neg (by decide)]
    by_cases hlast : s.sched.offset + 1 = (currentWindow s).length
    · rw [tickWalk, if_pos (by simp [expiryDue, hwalk, hlast]), if_pos hlast]
    · rw [tickWalk, if_neg (by simp [expiryDue, hlast]), if_neg hlast, takeWalkTick_within hwalk hlast, walkTaken, ← howed]

theorem tickDeadlines_eq (s : State) : tickDeadlines s = { s with ports := perPort (fun p => { s.ports.get p with
    queue := (s.ports.get p).queue.map (fun h => { h with deadline := h.deadline.map (· - 1) }) }) } := rfl

theorem tickMemory_eq (s : State) : tickMemory s = { s with mem := { s.mem with
    issueList := s.mem.issueList.map (fun e => { e with age := min (e.age + 1) 65535 })
    recovery := match s.mem.recovery with
      | .idle => .idle
      | .pulse n => .pulse (n - 1)
      | .wait n => .wait (n - 1) } } := rfl

theorem tickReset_eq {s : State} (hdue : s.link.resetDue = false) : tickReset s = { s with
    link := { s.link with resetDue := s.link.resetting && s.mem.issueList.isEmpty && s.posted.isEmpty } } := by
  by_cases h : (s.link.resetting && drained s) = true
  · rw [tickReset, if_pos h, Bool.and_assoc, show (s.mem.issueList.isEmpty && s.posted.isEmpty) = drained s from rfl, h]
  · rw [tickReset, if_neg h, Bool.and_assoc, show (s.mem.issueList.isEmpty && s.posted.isEmpty) = drained s from rfl,
      Bool.eq_false_of_not_eq_true h, ← hdue]

/-- A tick that finds nothing due advances the counts (R26). -/
theorem gateTick_of_nothingDue {s : State} (h : NothingDue s) : gateTick s = tickedFrom s := by
  obtain ⟨howed, -, -, -, -, -, hreset⟩ := id h
  rw [gateTick, takeDue_of_nothingDue h, tickWalk_eq (s := { s with ticked := 0 }) howed, tickDeadlines_eq, tickMemory_eq,
    tickCheck, tickReset_eq (by exact hreset)]
  simp only [List.isEmpty_map]
  rfl

/-- A tick takes what is due first (log entry 4). -/
theorem gateTick_eq {s : State} (hs : Planned s) : gateTick s = tickedFrom (takeDue s) := by
  have hnothing := takeDue_nothingDue hs
  rw [← gateTick_of_nothingDue hnothing, gateTick, gateTick, takeDue_of_nothingDue hnothing]

/-! ### What is due, in a grounded state -/

theorem Grounded.atStart {s : State} (h : Grounded s) : Grounded (quiet s) := grounded_kept.still (quiet_still s) h

theorem Grounded.due_eq {s : State} (hs : Grounded s) (hout : s.inReset = false) : dueTaken s = takeDue (quiet s) :=
  dueTaken_eq hout (grounded_kept.acts (takeOwedWalk_acts _) hs.atStart).buffers.queues

theorem Grounded.due_nothingDue {s : State} (hs : Grounded s) (hout : s.inReset = false) : NothingDue (dueTaken s) := by
  rw [hs.due_eq hout]
  exact takeDue_nothingDue hs.atStart.planned

theorem Grounded.ticked {s : State} (hs : Grounded s) (h : NothingDue s) : Grounded (tickedFrom s) :=
  gateTick_of_nothingDue h ▸ grounded_kept.acts (gateTick_acts s) hs

/-- The clock takes a tick and then all that falls due at it (R26, log entry 10). -/
theorem clockTick_quiet {s : State} (hs : Grounded s) (hout : s.inReset = false) (h : NothingDue s) :
    clockTick (quiet s) = dueTaken (tickedFrom s) := by
  have htick : gateTick (quiet s) = tickedFrom (quiet s) := gateTick_of_nothingDue h
  calc clockTick (quiet s) = takeDue (quiet (tickedFrom s)) := congrArg takeDue htick
    _ = dueTaken (tickedFrom s) := ((hs.ticked h).due_eq hout).symm

/-- With no command waiting a step is a cycle of the clock. -/
theorem step_of_idle {s : State} (hnone : s.pending = []) (hout : s.inReset = false) :
    step s = .next (if somethingDue (quiet s) then takeDue (quiet s) else countCycle (quiet s)) := by
  have hstep : step s = clockCycle s := by rw [step, hnone]
  exact hstep.trans (onEvent_of_running hout)

theorem step_of_idle_nothingDue {s : State} (hnone : s.pending = []) (hout : s.inReset = false) (h : NothingDue s) :
    step s = .next (countCycle (quiet s)) := by
  have hquiet : somethingDue (quiet s) = false := (somethingDue_eq_false_iff (quiet s)).mpr h
  rw [step_of_idle hnone hout, if_neg (by simp [hquiet])]

theorem step_of_idle_due {s : State} (hnone : s.pending = []) (hout : s.inReset = false) (h : ¬ NothingDue s) :
    step s = .next (takeDue (quiet s)) := by
  have hdue : somethingDue (quiet s) = true :=
    Bool.eq_true_of_not_eq_false fun hfalse => h ((somethingDue_eq_false_iff (quiet s)).mp hfalse)
  rw [step_of_idle hnone hout, if_pos hdue]

/-- Settles O33: what is due is taken in the table's order, and then the counts of the tick or of the clock advance. -/
theorem gateTickAdvancesTheCounts : Obligations.GateTickAdvancesTheCounts := by
  refine ⟨fun s hout h => ?_, fun s hout hlaw => ⟨hlaw.grounded.due_nothingDue hout, ?_⟩,
    fun s hnone hout hlaw h => ?_, fun s hnone hout h hcount => ?_,
    fun s hnone hout hlaw h hcount => ⟨(hlaw.grounded.ticked h).due_nothingDue hout, ?_⟩⟩
  · exact (onEvent_of_running hout).trans (congrArg _ (gateTick_of_nothingDue (s := quiet s) h))
  · rw [hlaw.grounded.due_eq hout]
    exact (onEvent_of_running hout).trans (congrArg _ (gateTick_eq hlaw.grounded.atStart.planned))
  · rw [hlaw.grounded.due_eq hout]
    exact step_of_idle_due hnone hout h
  · exact (step_of_idle_nothingDue hnone hout h).trans (congrArg _ (if_pos hcount))
  · have htick : countCycle (quiet s) = clockTick (quiet s) := if_neg hcount
    rw [step_of_idle_nothingDue hnone hout h, htick, clockTick_quiet hlaw.grounded hout h]

end Sys2Proof.Machine
end
